-- ==== Sys2Proof/Word.lean ====
section
/-! DEFINITION. The words of the NCDT engine (spec/00_scope.md R11) and the one division the rules use. -/

namespace Sys2Proof

/-- A byte, 0..255, bit 7 most significant (R11). -/
abbrev Byte := BitVec 8

/-- `u16` of R11. -/
abbrev U16 := BitVec 16

/-- `u32` of R11. -/
abbrev U32 := BitVec 32

/-- A level: a 3-bit quantised sample 0..7 (R19). -/
abbrev Level := BitVec 3

/-- `ceil_div(a, b)` of R11. -/
def ceilDiv (a b : Nat) : Nat := (a + b - 1) / b

end Sys2Proof
end

