-- ==== Sys2Proof/Config.lean ====
section
/-! DEFINITION. The configuration record of spec/00_scope.md R8 and the free values of spec/93_implementation_defined.md. -/

namespace Sys2Proof

/-- `TAG2_KIND` (R8, R85): which kind tag 0x02 means. -/
inductive Tag2Kind where
  | image8Bit
  | rawBytesWithWake
deriving DecidableEq, Repr

/-- The truncating rescale table of R133, the default. -/
def lutTruncating : Vector Byte 8 := #v[0, 36, 72, 109, 145, 182, 218, 255]

/-- The nearest rescale table of R133. -/
def lutNearest : Vector Byte 8 := #v[0, 36, 73, 109, 146, 182, 219, 255]

/-- The record of R8: static parameters, never written by an operation. A value outside a stated range cannot be
built (U9, U2). The three tick counts also fit the u32 counters they are loaded into (log 13). -/
structure Config where
  /-- `CHUNK_SIZE`, 1..32. -/
  chunkSize : Nat
  chunkSize_ok : 1 ≤ chunkSize ∧ chunkSize ≤ 32
  /-- `HANDSHAKE_TIMEOUT_TICKS`, at least 1. -/
  handshakeTimeoutTicks : Nat
  handshakeTimeoutTicks_ok : 1 ≤ handshakeTimeoutTicks ∧ handshakeTimeoutTicks < 2 ^ 32
  /-- `CHUNK_ACK_TIMEOUT_TICKS`, at least 1. -/
  chunkAckTimeoutTicks : Nat
  chunkAckTimeoutTicks_ok : 1 ≤ chunkAckTimeoutTicks ∧ chunkAckTimeoutTicks < 2 ^ 32
  /-- `RX_TIMEOUT_TICKS`; 0 = no deadline. -/
  rxTimeoutTicks : Nat
  rxTimeoutTicks_ok : rxTimeoutTicks < 2 ^ 32
  /-- `TAG2_KIND`. -/
  tag2Kind : Tag2Kind
  /-- `ACKQ_DEPTH`; none = unbounded. -/
  ackqDepth : Option Nat
  ackqDepth_ok : ackqDepth ≠ some 0
  /-- `MAX_PAYLOAD`, 0..2^32-1: the size of RXBUF. -/
  maxPayload : Nat
  maxPayload_ok : maxPayload < 2 ^ 32
  /-- `MEM_BYTES`, 1..2^32: the size of MEM. -/
  memBytes : Nat
  memBytes_ok : 1 ≤ memBytes ∧ memBytes ≤ 2 ^ 32
  /-- `DIAG_EOL`. -/
  diagEol : Byte
  /-- `UNPACK_LUT`, indexed by level; only the two tables of R133 are sanctioned (U2). -/
  unpackLut : Vector Byte 8
  unpackLut_ok : unpackLut = lutTruncating ∨ unpackLut = lutNearest
  /-- `TICK_PERIOD`, a "positive duration" (R8). DESIGN CHOICE (log 18): R8 gives no unit and no smallest step, and the
  model holds a whole number of microseconds. Nothing reads it (R351). -/
  tickPeriodMicros : Nat
  tickPeriodMicros_ok : 0 < tickPeriodMicros
  /-- `BACKOFF_MS` of the Retry Controller (host). -/
  backoffMs : Nat
  /-- `MAX_ATTEMPTS` of the Retry Controller (host); none = no limit. -/
  maxAttempts : Option Nat
  maxAttempts_ok : maxAttempts ≠ some 0
  /-- `BAUD`, a "link rate" (R8, platform). DESIGN CHOICE (log 18): a whole number of bits per second. Nothing reads it. -/
  baud : Nat
  /-- `RTS_HINT` (platform). -/
  rtsHint : Bool
deriving DecidableEq, Repr

/-- The `default` column of R8. -/
def Config.default : Config where
  chunkSize := 32
  chunkSize_ok := by decide
  handshakeTimeoutTicks := 2000
  handshakeTimeoutTicks_ok := by decide
  chunkAckTimeoutTicks := 2000
  chunkAckTimeoutTicks_ok := by decide
  rxTimeoutTicks := 0
  rxTimeoutTicks_ok := by decide
  tag2Kind := .image8Bit
  ackqDepth := none
  ackqDepth_ok := by decide
  maxPayload := 2 ^ 32 - 1
  maxPayload_ok := by decide
  memBytes := 2 ^ 32
  memBytes_ok := by decide
  diagEol := 0x0A
  unpackLut := lutTruncating
  unpackLut_ok := .inl rfl
  tickPeriodMicros := 1000
  tickPeriodMicros_ok := by decide
  backoffMs := 1500
  maxAttempts := none
  maxAttempts_ok := by decide
  baud := 1000000
  rtsHint := false

/-- FREE VALUE (U3, log 7): what the byte of MEM at an address nothing has written since the last reset reads as. The
first argument numbers the resets, so that the contents are fixed for one run and free anew after a reset. -/
opaque Config.unwrittenMem : Nat → Nat → Byte

/-- FREE VALUE (U3, log 8): the same for RXBUF. -/
opaque Config.unwrittenRxbuf : Nat → Nat → Byte

/-- FREE VALUE (U4, log 9): the byte IC.UNPACK3 takes for index j of a bitmap that is too short to have one. -/
opaque Config.missingBitmapByte : List Byte → Nat → Byte

end Sys2Proof
end

