-- ==== Sys2Proof/Syntax.lean ====
section
/-! DEFINITION. The instructions: one constructor for each of the 54 rows of spec/opcode_table.json, and the types of their
operands. -/

namespace Sys2Proof

/-- The four parameter bytes of a header, `[p0, p1, p2, p3]` (R81). -/
structure Params where
  p0 : Byte
  p1 : Byte
  p2 : Byte
  p3 : Byte
deriving DecidableEq, Repr

/-- The five header bytes, `h0` first on the wire (R81). -/
structure Header where
  h0 : Byte
  h1 : Byte
  h2 : Byte
  h3 : Byte
  h4 : Byte
deriving DecidableEq, Repr

/-- The six recognised tags, `TAGS` of R110. `tag2` is the byte 0x02, whose kind is a parameter (R85). -/
inductive Tag where
  | nak
  | rawBytes
  | tag2
  | stringData
  | image3Bit
  | ack
deriving DecidableEq, Repr

/-- The seven kinds of R102. -/
inductive Kind where
  | rawBytes
  | rawBytesWithWake
  | image8Bit
  | image3Bit
  | stringData
  | ack
  | nak
deriving DecidableEq, Repr

/-- An AckQueue entry (R31): the Nak sentinel -1, or an Ack's 32-bit value taken unsigned. -/
inductive Entry where
  | nak
  | val (v : U32)
deriving DecidableEq, Repr

/-- The two links a frame can arrive on (R35): the return link, read by AL, and the inbound link, read by RX. -/
inductive InLink where
  | ret
  | inb
deriving DecidableEq, Repr

/-- One constructor per row of spec/opcode_table.json. -/
inductive Instr where
  /-- FRAME.RawBytes (R84): a header of tag 0x01 with count `n` arrives on link `l`. -/
  | frameRawBytes (l : InLink) (n : U32)
  /-- FRAME.Image8Bit (R84, R85). -/
  | frameImage8Bit (l : InLink) (height width : U16)
  /-- FRAME.RawBytesWithWake (R84, R85). -/
  | frameRawBytesWithWake (l : InLink) (n : U32)
  /-- FRAME.StringData (R84). -/
  | frameStringData (l : InLink) (n : U32)
  /-- FRAME.Image3Bit (R84). -/
  | frameImage3Bit (l : InLink) (height width : U16)
  /-- FRAME.Ack (R84, R86). -/
  | frameAck (l : InLink) (n : U32)
  /-- FRAME.Nak (R84, R88). -/
  | frameNak (l : InLink) (x : Params)
  /-- FRAME.unrecognised (R87). -/
  | frameUnrecognised (l : InLink) (tag : Byte) (x : Params)
  /-- FC.ENCODE, code 0x01 (R111, R264). -/
  | fcEncode (tag : Byte) (params : Params)
  /-- FC.DECODE, code 0x02 (R112, R264). -/
  | fcDecode (h : Header)
  /-- IC.PACK3, code 0x03 (R262). -/
  | icPack3 (src : U32) (height width : U16) (dst : U32)
  /-- IC.UNPACK3, code 0x04 (R263): width before height. -/
  | icUnpack3 (src : U32) (width height : U16) (dst : U32)
  /-- TX.START, code 0x05 (R191). -/
  | txStart (tag : Byte) (params : Params) (base : U32)
  /-- RX.RESTART, code 0x06 (R251). -/
  | rxRestart
  /-- REG.READ, code 0x07 (R268). -/
  | regRead (regno : Byte)
  /-- MEM.WRITE, code 0x08 (R266). -/
  | memWrite (addr : U32) (byte : Byte)
  /-- MEM.READ, code 0x09 (R267). -/
  | memRead (addr : U32)
  /-- HOST.invalid (R97, R269): a code that selects no operation. -/
  | hostInvalid (code : Byte)
  /-- FC.COUNT (R114). -/
  | fcCount (params : Params)
  /-- FC.DIMS (R115). -/
  | fcDims (params : Params)
  /-- FC.PAYLEN (R116); `tag ∈ TAGS` by its type. -/
  | fcPaylen (tag : Tag) (params : Params)
  /-- FC.KIND (R117). -/
  | fcKind (tag : Tag)
  /-- IC.QUANT (R132). -/
  | icQuant (g : Byte)
  /-- IC.DEQUANT (R133). -/
  | icDequant (level : Level)
  /-- IC.PACK3.seq, the sequence form (R136). -/
  | icPack3Seq (m : List Byte)
  /-- IC.UNPACK3.seq, the sequence form (R137). -/
  | icUnpack3Seq (b : List Byte) (width height : U16)
  /-- AQ.ENQ (R162). -/
  | aqEnq (v : Entry)
  /-- AQ.DEQ (R164). -/
  | aqDeq
  /-- AQ.CLEAR (R165). -/
  | aqClear
  /-- TX.HS_BYTE (R195). -/
  | txHsByte
  /-- TX.HS_ACK (R197). -/
  | txHsAck
  /-- TX.HS_NAK (R198). -/
  | txHsNak
  /-- TX.HS_MISMATCH (R199). -/
  | txHsMismatch
  /-- TX.HS_TIMEOUT (R200). -/
  | txHsTimeout
  /-- TX.CHUNK_BYTE (R202). -/
  | txChunkByte
  /-- TX.CHUNK_ACK (R204). -/
  | txChunkAck
  /-- TX.CHUNK_NAK (R205). -/
  | txChunkNak
  /-- TX.CHUNK_MISMATCH (R206). -/
  | txChunkMismatch
  /-- TX.CHUNK_TIMEOUT (R207). -/
  | txChunkTimeout
  /-- TX.LINK_ERR (R209). -/
  | txLinkErr
  /-- AL.HDR_BYTE (R170). -/
  | alHdrByte
  /-- AL.FRAME_ACK (R172). -/
  | alFrameAck
  /-- AL.FRAME_NAK (R173). -/
  | alFrameNak
  /-- AL.FRAME_STR (R174). -/
  | alFrameStr
  /-- AL.FRAME_DROP.unknown (R175). -/
  | alFrameDropUnknown
  /-- AL.FRAME_DROP.payload_kind (R176). -/
  | alFrameDropPayloadKind
  /-- AL.DIAG_BYTE (R178). -/
  | alDiagByte
  /-- AL.LINK_ERR (R181). -/
  | alLinkErr
  /-- RX.HDR_BYTE (R231). -/
  | rxHdrByte
  /-- RX.HDR_DONE (R232). -/
  | rxHdrDone
  /-- RX.PAY_BYTE (R240). -/
  | rxPayByte
  /-- RX.TIMEOUT (R250). -/
  | rxTimeout
  /-- RX.LINK_ERR (R252). -/
  | rxLinkErr
  /-- TICK (R311). -/
  | tick
deriving DecidableEq, Repr

end Sys2Proof
end

