-- ==== Sys2Proof/WellFormed.lean ====
section
/-! DEFINITION. Which instruction terms the spec's tables admit, under a meaning of tag 0x02. -/

namespace Sys2Proof

/-- The checks of spec/opcode_table.json on the operands: the two readings of tag 0x02 (R85), an unrecognised tag is
none of the six (R87), an unlisted code is none of the nine (R97), a matrix has at most 4294836225 bytes (R130), and a
bitmap has the length its dimensions need (R139). DESIGN CHOICE (log 22): R139 defines IC.PACK3 only for height · width
bytes with u16 dimensions; a length within the bound that is no such product (65537) is admitted too. -/
def Instr.wf (k : Tag2Kind) : Instr → Bool
  | .frameImage8Bit _ _ _ => k == .image8Bit
  | .frameRawBytesWithWake _ _ => k == .rawBytesWithWake
  | .frameUnrecognised _ tag _ => !([0x00, 0x01, 0x02, 0x03, 0x04, 0xFF] : List Byte).contains tag
  | .hostInvalid code => code == 0x00 || decide (0x0A ≤ code.toNat)
  | .icPack3Seq m => decide (m.length ≤ 4294836225)
  | .icUnpack3Seq b width height => b.length == ceilDiv (height.toNat * width.toNat) 2
  | .frameRawBytes _ _ | .frameStringData _ _ | .frameImage3Bit _ _ _ | .frameAck _ _ | .frameNak _ _ => true
  | .fcEncode _ _ | .fcDecode _ | .icPack3 _ _ _ _ | .icUnpack3 _ _ _ _ | .txStart _ _ _ | .rxRestart => true
  | .regRead _ | .memWrite _ _ | .memRead _ => true
  | .fcCount _ | .fcDims _ | .fcPaylen _ _ | .fcKind _ | .icQuant _ | .icDequant _ => true
  | .aqEnq _ | .aqDeq | .aqClear => true
  | .txHsByte | .txHsAck | .txHsNak | .txHsMismatch | .txHsTimeout => true
  | .txChunkByte | .txChunkAck | .txChunkNak | .txChunkMismatch | .txChunkTimeout | .txLinkErr => true
  | .alHdrByte | .alFrameAck | .alFrameNak | .alFrameStr | .alFrameDropUnknown | .alFrameDropPayloadKind => true
  | .alDiagByte | .alLinkErr => true
  | .rxHdrByte | .rxHdrDone | .rxPayByte | .rxTimeout | .rxLinkErr | .tick => true

end Sys2Proof
end

