-- ==== Sys2Proof/Decode.lean ====
section
/-! DEFINITION. Bytes to instructions and back: frame headers (spec/30_encoding.md R80 to R87) and host commands (R96, R97).
The decoder first, the encoder after it. Function and step rows have no bit pattern (R98, R99). -/

namespace Sys2Proof

/-! ### Operand assembly (R12, R83) -/

/-- `be16` of R12: the first byte is the more significant. -/
def be16 (b1 b2 : Byte) : U16 := b1 ++ b2

/-- `be32` of R12. -/
def be32 (b1 b2 b3 b4 : Byte) : U32 := b1 ++ b2 ++ b3 ++ b4

/-- `bytes_be16` of R12. -/
def bytesBe16 (v : U16) : List Byte := [v.extractLsb' 8 8, v.extractLsb' 0 8]

/-- `bytes_be32` of R12. -/
def bytesBe32 (v : U32) : List Byte :=
  [v.extractLsb' 24 8, v.extractLsb' 16 8, v.extractLsb' 8 8, v.extractLsb' 0 8]

/-- `FC.PARAMS_C` of R114: the parameter bytes of a count. -/
def paramsC (n : U32) : Params := ⟨n.extractLsb' 24 8, n.extractLsb' 16 8, n.extractLsb' 8 8, n.extractLsb' 0 8⟩

/-- `FC.PARAMS_D` of R115: height, then width. -/
def paramsD (height width : U16) : Params :=
  ⟨height.extractLsb' 8 8, height.extractLsb' 0 8, width.extractLsb' 8 8, width.extractLsb' 0 8⟩

/-- FC.COUNT (R114): format C, big-endian, unsigned. -/
def fcCount (p : Params) : U32 := be32 p.p0 p.p1 p.p2 p.p3

/-- FC.DIMS (R115): format D, (height, width). -/
def fcDims (p : Params) : U16 × U16 := (be16 p.p0 p.p1, be16 p.p2 p.p3)

/-- The parameter bytes of a header (R81). -/
def Header.params (h : Header) : Params := ⟨h.h1, h.h2, h.h3, h.h4⟩

/-- The header made of a tag byte and its parameters (R81). -/
def headerOf (tag : Byte) (p : Params) : Header := ⟨tag, p.p0, p.p1, p.p2, p.p3⟩

/-- A header's bytes, first on the wire first (R81). -/
def Header.bytes (h : Header) : List Byte := [h.h0, h.h1, h.h2, h.h3, h.h4]

/-- The byte of each recognised tag (R84). -/
def Tag.byte : Tag → Byte
  | .nak => 0x00
  | .rawBytes => 0x01
  | .tag2 => 0x02
  | .stringData => 0x03
  | .image3Bit => 0x04
  | .ack => 0xFF

/-- The tag a byte is, `none` outside `TAGS` (R84, R110). -/
def Tag.ofByte (b : Byte) : Option Tag :=
  if b = 0x00 then some .nak
  else if b = 0x01 then some .rawBytes
  else if b = 0x02 then some .tag2
  else if b = 0x03 then some .stringData
  else if b = 0x04 then some .image3Bit
  else if b = 0xFF then some .ack
  else none

/-! ### The decoder -/

/-- Why bytes are no instruction. -/
inductive DecodeError where
  /-- An empty command: there is no code byte. -/
  | noCode
  /-- The operand bytes of a listed code are too few or too many (U12). -/
  | operandLength (code : Byte)
  /-- A header of other than five bytes (R80). -/
  | headerLength
deriving DecidableEq, Repr

/-- A complete header that arrived on link `l` (R84 to R87): every five bytes are some frame. -/
def decodeFrame (k : Tag2Kind) (l : InLink) (h : Header) : Instr :=
  match Tag.ofByte h.h0 with
  | some .rawBytes => .frameRawBytes l (fcCount h.params)
  | some .tag2 =>
    match k with
    | .image8Bit => .frameImage8Bit l (fcDims h.params).1 (fcDims h.params).2
    | .rawBytesWithWake => .frameRawBytesWithWake l (fcCount h.params)
  | some .stringData => .frameStringData l (fcCount h.params)
  | some .image3Bit => .frameImage3Bit l (fcDims h.params).1 (fcDims h.params).2
  | some .ack => .frameAck l (fcCount h.params)
  | some .nak => .frameNak l h.params
  | none => .frameUnrecognised l h.h0 h.params

/-- How many operand bytes a host operation code takes (R96); `none` for a code that selects none (R97). -/
def operandBytes (code : Byte) : Option Nat :=
  match code.toNat with
  | 0x01 => some 5
  | 0x02 => some 5
  | 0x03 => some 12
  | 0x04 => some 12
  | 0x05 => some 9
  | 0x06 => some 0
  | 0x07 => some 1
  | 0x08 => some 5
  | 0x09 => some 4
  | _ => none

/-- The operation of a listed code on its operand bytes (R96); `none` where they are not as many as it takes. -/
def decodeOperands (code : Byte) (ops : List Byte) : Option Instr :=
  match code.toNat, ops with
  | 0x01, [t, a, b, c, d] => some (.fcEncode t ⟨a, b, c, d⟩)
  | 0x02, [a, b, c, d, e] => some (.fcDecode ⟨a, b, c, d, e⟩)
  | 0x03, [s3, s2, s1, s0, h1, h0, w1, w0, d3, d2, d1, d0] =>
    some (.icPack3 (be32 s3 s2 s1 s0) (be16 h1 h0) (be16 w1 w0) (be32 d3 d2 d1 d0))
  | 0x04, [s3, s2, s1, s0, w1, w0, h1, h0, d3, d2, d1, d0] =>
    some (.icUnpack3 (be32 s3 s2 s1 s0) (be16 w1 w0) (be16 h1 h0) (be32 d3 d2 d1 d0))
  | 0x05, [t, a, b, c, d, b3, b2, b1, b0] => some (.txStart t ⟨a, b, c, d⟩ (be32 b3 b2 b1 b0))
  | 0x06, [] => some .rxRestart
  | 0x07, [r] => some (.regRead r)
  | 0x08, [a3, a2, a1, a0, v] => some (.memWrite (be32 a3 a2 a1 a0) v)
  | 0x09, [a3, a2, a1, a0] => some (.memRead (be32 a3 a2 a1 a0))
  | _, _ => none

/-- A command of the command port: code byte, then operands (R96). A code that is not listed selects no operation
whatever follows it (R97, R269); a listed code with too few or too many operand bytes is no command (U12, log 14). -/
def decodeCommand : List Byte → Except DecodeError Instr
  | [] => .error .noCode
  | code :: ops =>
    match operandBytes code with
    | none => .ok (.hostInvalid code)
    | some _ =>
      match decodeOperands code ops with
      | some i => .ok i
      | none => .error (.operandLength code)

/-- Where bytes that encode an instruction are presented: the command port, or a link. -/
inductive Port where
  | command
  | link (l : InLink)
deriving DecidableEq, Repr

/-- The whole decoder, total on any bytes. -/
def decode (k : Tag2Kind) : Port → List Byte → Except DecodeError Instr
  | .command, bs => decodeCommand bs
  | .link l, [a, b, c, d, e] => .ok (decodeFrame k l ⟨a, b, c, d, e⟩)
  | .link _, _ => .error .headerLength

/-! ### The encoder -/

/-- The header of a frame instruction (R84). -/
def Instr.header : Instr → Option (InLink × Header)
  | .frameRawBytes l n => some (l, headerOf 0x01 (paramsC n))
  | .frameImage8Bit l h w => some (l, headerOf 0x02 (paramsD h w))
  | .frameRawBytesWithWake l n => some (l, headerOf 0x02 (paramsC n))
  | .frameStringData l n => some (l, headerOf 0x03 (paramsC n))
  | .frameImage3Bit l h w => some (l, headerOf 0x04 (paramsD h w))
  | .frameAck l n => some (l, headerOf 0xFF (paramsC n))
  | .frameNak l x => some (l, headerOf 0x00 x)
  | .frameUnrecognised l t x => some (l, headerOf t x)
  | _ => none

/-- The command bytes of a host operation (R96). -/
def Instr.command : Instr → Option (List Byte)
  | .fcEncode t p => some [0x01, t, p.p0, p.p1, p.p2, p.p3]
  | .fcDecode h => some (0x02 :: h.bytes)
  | .icPack3 s h w d => some (0x03 :: (bytesBe32 s ++ bytesBe16 h ++ bytesBe16 w ++ bytesBe32 d))
  | .icUnpack3 s w h d => some (0x04 :: (bytesBe32 s ++ bytesBe16 w ++ bytesBe16 h ++ bytesBe32 d))
  | .txStart t p b => some (0x05 :: t :: p.p0 :: p.p1 :: p.p2 :: p.p3 :: bytesBe32 b)
  | .rxRestart => some [0x06]
  | .regRead r => some [0x07, r]
  | .memWrite a v => some (0x08 :: (bytesBe32 a ++ [v]))
  | .memRead a => some (0x09 :: bytesBe32 a)
  | .hostInvalid c => some [c]
  | _ => none

/-- The encoding of an instruction: the port its bytes are presented at and the bytes, first one first; `none` for the
rows without a bit pattern (R98, R99). -/
def encode (i : Instr) : Option (Port × List Byte) :=
  match i.header with
  | some (l, h) => some (.link l, h.bytes)
  | none => (i.command).map fun bs => (.command, bs)

/-! ### One word of the opcode table -/

/-- The first `n` bytes of a number, least significant byte first: how the table numbers a host operation's bits
(`match_applies_to` "command byte 0"). -/
def littleEndianBytes : Nat → Nat → List Byte
  | 0, _ => []
  | n + 1, w => BitVec.ofNat 8 w :: littleEndianBytes n (w / 256)

/-- The 40-bit pattern of R81 as a header: bits 39:32 are `H[0]`. -/
def headerOfPattern (w : Nat) : Header :=
  ⟨BitVec.ofNat 8 (w >>> 32), BitVec.ofNat 8 (w >>> 24), BitVec.ofNat 8 (w >>> 16), BitVec.ofNat 8 (w >>> 8),
    BitVec.ofNat 8 w⟩

/-- The command whose bits are `w`, every bit above them 0: as many bytes as its code takes (one for an unlisted code). -/
def commandOfPattern (w : Nat) : List Byte :=
  littleEndianBytes (1 + (operandBytes (BitVec.ofNat 8 w)).getD 0) w

/-- Whether an opcode-table word is a frame header: 40 bits, but for the one word 0x09, which is MEM.READ's five bytes
with address 0 (log 5). -/
def isFramePattern (nbits w : Nat) : Bool := nbits == 40 && w != 0x09

/-- The link a header of the opcode table is presented on: Ack and Nak on the return link, whose reader acts on them,
every other on the inbound link (log 5). -/
def tableLink (h : Header) : InLink := if h.h0 = 0x00 ∨ h.h0 = 0xFF then .ret else .inb

/-- The instruction the decoder reads from an opcode-table word, with tag 0x02 read as by default (R8). -/
def decodeTableWord (nbits w : Nat) : Option Instr :=
  let w := w % 2 ^ nbits
  let r := if isFramePattern nbits w then
      decode Config.default.tag2Kind (.link (tableLink (headerOfPattern w))) (headerOfPattern w).bytes
    else decode Config.default.tag2Kind .command (commandOfPattern w)
  match r with
  | .ok i => some i
  | .error _ => none

end Sys2Proof
end

