-- ==== Sys2Proof/Machine/State.lean ====
section
/-! DEFINITION. The state of the block (spec/10_state.md R20 to R38), the reasons a step can stop, and reset (R330). -/

namespace Sys2Proof.Machine

/-- `tx_state` (R24): exactly the listed values (U7). -/
inductive TxState where
  | idle
  | hsSend
  | hsWait
  | chunkSend
  | chunkWait
deriving DecidableEq, Repr

/-- `al_state` (R25). -/
inductive AlState where
  | hdr
  | diag
  | error
deriving DecidableEq, Repr

/-- `rx_state` (R26). -/
inductive RxState where
  | hdr
  | payload
  | error
deriving DecidableEq, Repr

/-- The outcome codes of R290, in the order 0 to 9. -/
inductive OutcomeCode where
  | none
  | success
  | handshakeTimeout
  | peerNak
  | protocolMismatch
  | malformedFrame
  | linkIoFailure
  | chunkAckTimeout
  | rxTimeout
  | cmdRejected
deriving DecidableEq, Repr

/-- The status a host operation returns (R261). -/
inductive Status where
  | accepted
  | cmdRejected
deriving DecidableEq, Repr

/-- An event record on `EVT` (R296). -/
inductive EventRecord where
  | txDone (code : OutcomeCode) (info : Entry) (sent expect : U32)
  | rxErr (code : OutcomeCode) (tag : Byte) (params : Params) (got : U32)
  | aqOvf (v : Entry)
  | alLinkErr
deriving DecidableEq, Repr

/-- A record on `DLV` (R35, R245). -/
structure Delivery where
  tag : Byte
  params : Params
  data : List Byte
deriving DecidableEq, Repr

/-- A record on `LOG` (R35, R175). -/
structure LogRecord where
  tag : Byte
  params : Params
deriving DecidableEq, Repr

/-- The value of a register as `REG.READ` returns it (R268): a number, or the bytes of a byte-sequence register. -/
inductive RegValue where
  | num (v : Int)
  | bytes (bs : List Byte)
deriving DecidableEq, Repr

/-- What the last host operation or function returned (R96, log 6). -/
inductive Result where
  /-- Nothing has been asked yet. -/
  | none
  | status (s : Status)
  /-- `FC.ENCODE`. -/
  | header (h : Header)
  /-- `FC.DECODE`. -/
  | frame (tag : Byte) (params : Params)
  /-- The failure `MalformedFrame` of `FC.ENCODE` and `FC.DECODE`, a returned value (R119). -/
  | malformedFrame
  /-- `REG.READ`. -/
  | register (v : RegValue)
  /-- `MEM.READ`, `IC.DEQUANT`. -/
  | byte (b : Byte)
  /-- `FC.COUNT`, `FC.PAYLEN`. -/
  | count (n : Nat)
  /-- `FC.DIMS`. -/
  | dims (height width : U16)
  /-- `FC.KIND`. -/
  | kind (k : Kind)
  /-- `IC.QUANT`. -/
  | level (l : Level)
  /-- `IC.PACK3.seq`, `IC.UNPACK3.seq`. -/
  | bytes (bs : List Byte)
  /-- `AQ.DEQ`. -/
  | entry (v : Entry)
  /-- `AQ.ENQ`, `AQ.CLEAR`: an operation without a value. -/
  | unit
deriving DecidableEq, Repr

/-- The units that take steps of their own (R14). -/
inductive UnitName where
  | tx
  | al
  | rx
deriving DecidableEq, Repr

/-- The three link channels, one error input each (R38). -/
inductive LinkName where
  | out
  | ret
  | inb
deriving DecidableEq, Repr

/-- The channels HOST takes elements from (R54, R271). -/
inductive HostChannel where
  | diag
  | log
  | dlv
  | evt
deriving DecidableEq, Repr

/-- One choice of the environment or of the scheduler (R14, R322, log 1). -/
inductive AgendaItem where
  /-- HOST presents a command, code and operands, on the command port (R96). -/
  | command (bytes : List Byte)
  /-- The peer puts a whole header on a link and the link's unit takes five turns (log 4). -/
  | frame (l : InLink) (h : Header)
  /-- The unit takes its enabled step, or waits (R14). -/
  | turn (u : UnitName)
  /-- The tick source fires (R311). -/
  | tick
  /-- PEER_RET or PEER_INB appends a byte (R54). -/
  | peerByte (l : InLink) (b : Byte)
  /-- LINK_OUT removes the head of OUT (R54). -/
  | linkOut
  /-- HOST removes the head of a channel (R54). -/
  | hostPop (c : HostChannel)
  /-- LINKERR sets an error input (R38). -/
  | linkErr (l : LinkName)
  /-- The reset input is asserted (R330). -/
  | reset
deriving DecidableEq, Repr

/-- A byte memory: the (address, byte) pairs written since reset, addresses strictly rising. An address that is not
listed holds no value here (R37, U3). -/
abbrev Memory := List Host.Cell

/-- The whole state: the registers of R21, the error inputs of R38, the AckQueue, the memories, the channels, and the
model's own fields at the end. -/
structure State where
  /-- no. 0 -/
  txState : TxState
  /-- no. 1 -/
  txIdx : BitVec 3
  /-- no. 2 -/
  txTag : Byte
  /-- no. 3 -/
  txParams : Params
  /-- no. 4 -/
  txBase : U32
  /-- no. 5 -/
  totalLen : U32
  /-- no. 6 -/
  sent : U32
  /-- no. 7 -/
  expect : U32
  /-- no. 8 -/
  chunkRem : BitVec 6
  /-- no. 9 -/
  wd : U32
  /-- no. 10 -/
  txOutcome : OutcomeCode
  /-- no. 11 -/
  txInfo : Entry
  /-- no. 12 -/
  alState : AlState
  /-- no. 13 -/
  alCnt : BitVec 3
  /-- no. 14 -/
  alHdr : Header
  /-- no. 16 -/
  aqOvf : Bool
  /-- no. 17 -/
  alLinkErr : Bool
  /-- no. 18 -/
  rxState : RxState
  /-- no. 19 -/
  rxCnt : BitVec 3
  /-- no. 20 -/
  rxHdr : Header
  /-- no. 21 -/
  rxTag : Byte
  /-- no. 22 -/
  rxParams : Params
  /-- no. 23 -/
  rxLen : U32
  /-- no. 24 -/
  rxGot : U32
  /-- no. 25 -/
  rxWd : U32
  /-- no. 26 -/
  rxOutcome : OutcomeCode
  /-- `err_OUT`, no. 27 -/
  errOut : Bool
  /-- `err_RET`, no. 28 -/
  errRet : Bool
  /-- `err_INB`, no. 29 -/
  errInb : Bool
  /-- `AQ`, head first (R30); no. 15 is its length -/
  aq : List Entry
  /-- `MEM` (R33) -/
  mem : Memory
  /-- `RXBUF` (R33) -/
  rxbuf : Memory
  /-- `OUT` (R35), head first, as every channel -/
  out : List Byte
  /-- `RET` -/
  ret : List Byte
  /-- `INB` -/
  inb : List Byte
  /-- `DIAG`: byte and last bit -/
  diag : List (Byte × Bool)
  /-- `LOG` -/
  log : List LogRecord
  /-- `DLV` -/
  dlv : List Delivery
  /-- `EVT` -/
  evt : List EventRecord
  /-- MODEL: the configuration record (R8), never written (log 3) -/
  cfg : Config
  /-- MODEL: what the last operation returned (log 6) -/
  result : Result
  /-- MODEL: how many resets there have been (log 16) -/
  epoch : Nat
  /-- MODEL: the choices of environment and scheduler still to come (log 1) -/
  agenda : List AgendaItem
deriving DecidableEq, Repr

/-- The state after reset under a configuration (R37, R330), the `epoch`-th one. -/
def State.resetWith (cfg : Config) (epoch : Nat) : State where
  txState := .idle
  txIdx := 0
  txTag := 0
  txParams := ⟨0, 0, 0, 0⟩
  txBase := 0
  totalLen := 0
  sent := 0
  expect := 0
  chunkRem := 0
  wd := 0
  txOutcome := .none
  txInfo := .val 0
  alState := .hdr
  alCnt := 0
  alHdr := ⟨0, 0, 0, 0, 0⟩
  aqOvf := false
  alLinkErr := false
  rxState := .hdr
  rxCnt := 0
  rxHdr := ⟨0, 0, 0, 0, 0⟩
  rxTag := 0
  rxParams := ⟨0, 0, 0, 0⟩
  rxLen := 0
  rxGot := 0
  rxWd := 0
  rxOutcome := .none
  errOut := false
  errRet := false
  errInb := false
  aq := []
  mem := []
  rxbuf := []
  out := []
  ret := []
  inb := []
  diag := []
  log := []
  dlv := []
  evt := []
  cfg := cfg
  result := .none
  epoch := epoch
  agenda := []

/-- The machine right after reset, with the default configuration of R8. -/
def State.reset : State := State.resetWith Config.default 0

/-- Faults: the spec says none of them can happen ("no access of the block is ever out of range", R51; "`tx_idx` < 5
always holds here" and "cannot fail", R195), so each stops only in states no run from reset reaches. -/
inductive Fault where
  /-- TX.CHUNK_BYTE would read MEM at an address at or past MEM_BYTES (R51, R202). Safe: R192(b) rules it out. -/
  | memOutOfRange (addr : Nat)
  /-- RX.PAY_BYTE would write RXBUF at an index at or past MAX_PAYLOAD (R51, R240). Safe: R239 rules it out. -/
  | rxbufOutOfRange (index : Nat)
  /-- TX.HS_BYTE has no header byte of this index (R195). Safe: `tx_idx` < 5 in TX_HS_SEND. -/
  | headerIndex (idx : Nat)
  /-- TX.HS_BYTE has a tag no header can be encoded with (R195). Safe: `tx_tag` is a payload kind in TX_HS_SEND. -/
  | handshakeTag (tag : Byte)
deriving DecidableEq, Repr

/-- Refusals. -/
inductive Refusal where
  /-- Raised by `exec` for an instruction without a meaning; safe. No instruction of this model is refused so. -/
  | notModelled (mnemonic : String)
  /-- Raised by `step` for a command whose bytes are no instruction (U12 "refuse"): safe. -/
  | malformedCommand (e : DecodeError)
deriving DecidableEq, Repr

/-- The outcome of one step of this machine. -/
abbrev StepOutcome := Host.Outcome State Fault Refusal

end Sys2Proof.Machine
end

