-- ==== Sys2Proof/Machine/Operands.lean ====
section
/-! DEFINITION. The Frame Codec and the Image Codec as pure functions (spec/40_frame_codec.md, spec/41_image_codec.md), and
the numeric codes of the state registers and outcomes. -/

namespace Sys2Proof.Machine

/-! ### Frame Codec -/

/-- `tag ∈ TAGS` (R110). -/
def isTag (b : Byte) : Bool := (Tag.ofByte b).isSome

/-- `tag ∈ PAYTAGS` (R110), with the tag it is. -/
def payTag (b : Byte) : Option Tag :=
  match Tag.ofByte b with
  | some .ack => none
  | some .nak => none
  | t => t

/-- FC.ENCODE (R111); `none` is the failure MalformedFrame. -/
def fcEncode (tag : Byte) (params : Params) : Option Header :=
  if isTag tag then some (headerOf tag params) else none

/-- FC.DECODE (R112); `none` is the failure MalformedFrame. -/
def fcDecode (h : Header) : Option (Byte × Params) :=
  if isTag h.h0 then some (h.h0, h.params) else none

/-- FC.PAYLEN (R116): the number of payload bytes a header announces, an exact product or count. -/
def fcPaylen (k : Tag2Kind) (tag : Tag) (p : Params) : Nat :=
  match tag with
  | .rawBytes => (fcCount p).toNat
  | .stringData => (fcCount p).toNat
  | .tag2 =>
    match k with
    | .image8Bit => (fcDims p).1.toNat * (fcDims p).2.toNat
    | .rawBytesWithWake => (fcCount p).toNat
  | .image3Bit => ceilDiv ((fcDims p).1.toNat * (fcDims p).2.toNat) 2
  | .ack => 0
  | .nak => 0

/-- FC.KIND (R117). -/
def fcKind (k : Tag2Kind) : Tag → Kind
  | .rawBytes => .rawBytes
  | .tag2 =>
    match k with
    | .image8Bit => .image8Bit
    | .rawBytesWithWake => .rawBytesWithWake
  | .stringData => .stringData
  | .image3Bit => .image3Bit
  | .ack => .ack
  | .nak => .nak

/-- Byte `i` of a header; `none` past the fifth. -/
def headerByte (h : Header) (i : Nat) : Option Byte := h.bytes[i]?

/-- `hdr[i] <- b` for i = 0..4; an index past the fifth writes nothing. -/
def setHeaderByte (h : Header) (i : BitVec 3) (b : Byte) : Header :=
  match i.toNat with
  | 0 => { h with h0 := b }
  | 1 => { h with h1 := b }
  | 2 => { h with h2 := b }
  | 3 => { h with h3 := b }
  | 4 => { h with h4 := b }
  | _ => h

/-! ### Image Codec -/

/-- IC.QUANT (R132): the exact integer form. -/
def icQuant (g : Byte) : Level := BitVec.ofNat 3 ((7 * g.toNat + 127) / 255)

/-- IC.DEQUANT (R133): the table's entry. -/
def icDequant (lut : Vector Byte 8) (level : Level) : Byte := lut[level.toNat]'level.isLt

/-- The packed byte of R134: `a` in bits 7:5, `b` in bits 3:1, bits 4 and 0 zero. -/
def packByte (a b : Level) : Byte := a ++ 0#1 ++ b ++ 0#1

/-- The level of pixel `i` in its packed byte (R137): bits 7:5 for even i, bits 3:1 for odd i. -/
def laneLevel (b : Byte) (i : Nat) : Level := if i % 2 = 0 then b.extractLsb' 5 3 else b.extractLsb' 1 3

/-- The level IC.PACK3 gives pixel `i` of `m`: quantised, or 0 for the missing last pixel (R136). -/
def pixelLevel (m : List Byte) (i : Nat) : Level :=
  match m[i]? with
  | some g => icQuant g
  | none => 0

/-- IC.PACK3, sequence form (R136). DESIGN CHOICE (log 22): a list whose length is no product of two u16 numbers, for
which R139 does not define it, is packed by the same pseudocode. -/
def icPack3Seq (m : List Byte) : List Byte :=
  (List.range (ceilDiv m.length 2)).map fun j => packByte (pixelLevel m (2 * j)) (pixelLevel m (2 * j + 1))

/-- Byte `j` of a bitmap; for a bitmap too short to have it, a FREE VALUE (U4, log 9). -/
def bitmapByte (b : List Byte) (j : Nat) : Byte :=
  match b[j]? with
  | some v => v
  | none => Config.missingBitmapByte b j

/-- IC.UNPACK3, sequence form (R137): N = height · width pixels; surplus bytes are ignored. -/
def icUnpack3Seq (lut : Vector Byte 8) (b : List Byte) (width height : U16) : List Byte :=
  (List.range (height.toNat * width.toNat)).map fun i => icDequant lut (laneLevel (bitmapByte b (i / 2)) i)

/-! ### Numeric codes -/

/-- The code of `tx_state` (R24). -/
def TxState.code : TxState → Nat
  | .idle => 0
  | .hsSend => 1
  | .hsWait => 2
  | .chunkSend => 3
  | .chunkWait => 4

/-- The code of `al_state` (R25). -/
def AlState.code : AlState → Nat
  | .hdr => 0
  | .diag => 1
  | .error => 2

/-- The code of `rx_state` (R26). -/
def RxState.code : RxState → Nat
  | .hdr => 0
  | .payload => 1
  | .error => 2

/-- The outcome codes of R290. -/
def OutcomeCode.code : OutcomeCode → Nat
  | .none => 0
  | .success => 1
  | .handshakeTimeout => 2
  | .peerNak => 3
  | .protocolMismatch => 4
  | .malformedFrame => 5
  | .linkIoFailure => 6
  | .chunkAckTimeout => 7
  | .rxTimeout => 8
  | .cmdRejected => 9

/-- The status codes of R261. -/
def Status.code : Status → Nat
  | .accepted => 0
  | .cmdRejected => 9

/-- The integer an AckQueue entry is (R31). -/
def entryInt : Entry → Int
  | .nak => -1
  | .val v => v.toNat

/-- A one-bit register as a number. -/
def bitNum (b : Bool) : Int := if b then 1 else 0

end Sys2Proof.Machine
end

