-- ==== Sys2Proof/Machine/Ops.lean ====
section
/-! DEFINITION. The named operations over memories, queue and channels; `raise` of TX and of RX, the two ways an attempt or a
frame ends (spec/60_exceptions.md R300), and beside them the way back. -/

namespace Sys2Proof.Machine

/-! ### Byte memories (spec/20_memory.md R51) -/

/-- The byte written at `a`; `none` where nothing has been written since reset. -/
def Memory.read? : Memory → Nat → Option Byte
  | [], _ => none
  | (k, b) :: rest, a => if k = a then some b else Memory.read? rest a

/-- Writing one byte: the list stays sorted, one entry for an address. -/
def Memory.write : Memory → Nat → Byte → Memory
  | [], a, b => [(a, b)]
  | (k, c) :: rest, a, b =>
    if a < k then (a, b) :: (k, c) :: rest
    else if a = k then (a, b) :: rest
    else (k, c) :: Memory.write rest a b

/-- `MemWrite(S, a, n, v)` (R51): byte i of `v` at `a + i`. -/
def Memory.writeSeq : Memory → Nat → List Byte → Memory
  | m, _, [] => m
  | m, a, b :: bs => Memory.writeSeq (Memory.write m a b) (a + 1) bs

/-- The canonical form: addresses strictly rising. Every entry holds a byte, and an unlisted address holds none, so no
entry is equal to what an unlisted address holds. -/
abbrev Memory.wf (m : Memory) : Prop := m.Pairwise fun x y => x.1 < y.1

/-- The byte of MEM at `a` (R51); one nothing has written is a FREE VALUE, fixed until the next reset (U3, log 7). -/
def memByte (s : State) (a : Nat) : Byte :=
  match Memory.read? s.mem a with
  | some b => b
  | none => Config.unwrittenMem s.epoch a

/-- The byte of RXBUF at `i`; one nothing has written is a FREE VALUE (U3, log 8). -/
def rxbufByte (s : State) (i : Nat) : Byte :=
  match Memory.read? s.rxbuf i with
  | some b => b
  | none => Config.unwrittenRxbuf s.epoch i

/-- `MemRead(MEM, a, n)` (R51), lowest address first. -/
def memSeq (s : State) (a n : Nat) : List Byte := (List.range n).map fun i => memByte s (a + i)

/-- `MemRead(RXBUF, 0, n)` (R51, R245). -/
def rxbufSeq (s : State) (n : Nat) : List Byte := (List.range n).map fun i => rxbufByte s i

/-! ### The AckQueue (spec/42_ack_listener.md R160 to R166) -/

/-- `len(AQ) < ACKQ_DEPTH` (R162); always so for an unbounded queue. -/
def aqHasRoom (s : State) : Bool :=
  match s.cfg.ackqDepth with
  | none => true
  | some d => decide (s.aq.length < d)

/-- AQ.ENQ (R162): append, or drop the new entry, set `aq_ovf` and emit AQ_OVF. -/
def aqEnq (v : Entry) (s : State) : State :=
  if aqHasRoom s then { s with aq := s.aq ++ [v] }
  else { s with aqOvf := true, evt := s.evt ++ [.aqOvf v] }

/-- AQ.DEQ's effect on the queue (R164). -/
def aqDrop (s : State) : State := { s with aq := s.aq.tail }

/-- AQ.CLEAR (R165). -/
def aqClear (s : State) : State := { s with aq := [] }

/-! ### Results of operations -/

/-- Returning a result (R96, R260). -/
def setResult (r : Result) (s : State) : State := { s with result := r }

/-- `return CmdRejected`: no state of the block changes (R261). -/
def rejectCommand (s : State) : StepOutcome := .next (setResult (.status .cmdRejected) s)

/-- `return Accepted` (R261). -/
def acceptCommand (s : State) : StepOutcome := .next (setResult (.status .accepted) s)

/-! ### `raise`, and the way back -/

/-- `raise X` of TX (R211): outcome, back to TX_IDLE, TX_DONE with the values after the step's other writes. -/
def txRaise (x : OutcomeCode) (s : State) : State :=
  { s with txOutcome := x, txState := .idle, evt := s.evt ++ [.txDone x s.txInfo s.sent s.expect] }

/-- `raise X` of RX (R253): outcome, RX_ERROR, RX_ERR. -/
def rxRaise (x : OutcomeCode) (s : State) : State :=
  { s with rxOutcome := x, rxState := .error, evt := s.evt ++ [.rxErr x s.rxTag s.rxParams s.rxGot] }

/-- The way back from RX_ERROR (R251): to a header boundary, INB and err_INB untouched. -/
def rxResume (s : State) : State :=
  { s with rxState := .hdr, rxCnt := 0, rxGot := 0, rxLen := 0, rxOutcome := .none }

/-- The way back for TX (R302, R191): every session register loaded anew, the queue cleared. -/
def txLoad (tag : Byte) (params : Params) (base : U32) (len : Nat) (s : State) : State :=
  { s with
    aq := [], txTag := tag, txParams := params, txBase := base, totalLen := BitVec.ofNat 32 len
    sent := 0, expect := 0, txIdx := 0, chunkRem := 0, wd := 0, txOutcome := .none, txInfo := .val 0 }

/-! ### Steps of units -/

/-- One step after another; a stop stays. -/
def andThen (r : StepOutcome) (f : State → StepOutcome) : StepOutcome :=
  match r with
  | .next s => f s
  | .fault e => .fault e
  | .refused e => .refused e

end Sys2Proof.Machine
end

