-- ==== Sys2Proof/Machine/Flags.lean ====
section
/-! DEFINITION. The derived status bits (spec/10_state.md R29) and the condition under which each step is enabled
(spec/30_encoding.md R99 and the rule of the step, with the priorities of spec/60_exceptions.md R304). -/

namespace Sys2Proof.Machine

/-- `tx_busy` (R29). -/
def txBusy (s : State) : Bool := s.txState != .idle

/-- `AQ.empty` (R29, R166). -/
def aqEmpty (s : State) : Bool := s.aq.isEmpty

/-- `rx_stopped` (R29). -/
def rxStopped (s : State) : Bool := s.rxState == .error

/-- RX is inside a frame (R28). -/
def rxInFrame (s : State) : Bool := (s.rxState == .hdr && s.rxCnt != 0) || s.rxState == .payload

/-- TX is in a wait state (R27). -/
def txWaiting (s : State) : Bool := s.txState == .hsWait || s.txState == .chunkWait

/-- The head of AQ is `v`; false for an empty queue. -/
def aqHeadIs (v : Entry) (s : State) : Bool := s.aq.head? == some v

/-! ### TX (R195 to R209) -/

def onTxHsByte (s : State) : Bool := s.txState == .hsSend && !s.errOut

def onTxHsAck (s : State) : Bool := s.txState == .hsWait && !s.errOut && aqHeadIs (.val s.totalLen) s

def onTxHsNak (s : State) : Bool := s.txState == .hsWait && !s.errOut && aqHeadIs .nak s

def onTxHsMismatch (s : State) : Bool :=
  s.txState == .hsWait && !s.errOut && !aqEmpty s && !aqHeadIs (.val s.totalLen) s && !aqHeadIs .nak s

def onTxHsTimeout (s : State) : Bool := s.txState == .hsWait && !s.errOut && aqEmpty s && s.wd == 0

def onTxChunkByte (s : State) : Bool := s.txState == .chunkSend && !s.errOut

def onTxChunkAck (s : State) : Bool := s.txState == .chunkWait && !s.errOut && aqHeadIs (.val s.expect) s

def onTxChunkNak (s : State) : Bool := s.txState == .chunkWait && !s.errOut && aqHeadIs .nak s

def onTxChunkMismatch (s : State) : Bool :=
  s.txState == .chunkWait && !s.errOut && !aqEmpty s && !aqHeadIs (.val s.expect) s && !aqHeadIs .nak s

def onTxChunkTimeout (s : State) : Bool := s.txState == .chunkWait && !s.errOut && aqEmpty s && s.wd == 0

def onTxLinkErr (s : State) : Bool := txBusy s && s.errOut

/-! ### AL (R170 to R181) -/

/-- AL is about to pop a fifth header byte (R171). -/
def alAtFifth (s : State) : Bool := s.alState == .hdr && s.alCnt == 4 && !s.ret.isEmpty && !s.errRet

def onAlHdrByte (s : State) : Bool :=
  s.alState == .hdr && decide (s.alCnt.toNat < 4) && !s.ret.isEmpty && !s.errRet

def onAlFrameAck (s : State) : Bool := alAtFifth s && Tag.ofByte s.alHdr.h0 == some .ack

def onAlFrameNak (s : State) : Bool := alAtFifth s && Tag.ofByte s.alHdr.h0 == some .nak

def onAlFrameStr (s : State) : Bool := alAtFifth s && Tag.ofByte s.alHdr.h0 == some .stringData

def onAlFrameDropUnknown (s : State) : Bool := alAtFifth s && Tag.ofByte s.alHdr.h0 == none

def onAlFrameDropPayloadKind (s : State) : Bool :=
  alAtFifth s && (Tag.ofByte s.alHdr.h0 == some .rawBytes || Tag.ofByte s.alHdr.h0 == some .tag2 ||
    Tag.ofByte s.alHdr.h0 == some .image3Bit)

def onAlDiagByte (s : State) : Bool := s.alState == .diag && !s.ret.isEmpty && !s.errRet

def onAlLinkErr (s : State) : Bool := s.alState != .error && s.errRet

/-! ### RX (R231 to R252) -/

def onRxHdrByte (s : State) : Bool :=
  s.rxState == .hdr && decide (s.rxCnt.toNat < 4) && !s.inb.isEmpty && !s.errInb

def onRxHdrDone (s : State) : Bool := s.rxState == .hdr && s.rxCnt == 4 && !s.inb.isEmpty && !s.errInb

def onRxPayByte (s : State) : Bool := s.rxState == .payload && !s.inb.isEmpty && !s.errInb

def onRxTimeout (s : State) : Bool :=
  decide (0 < s.cfg.rxTimeoutTicks) && rxInFrame s && s.inb.isEmpty && s.rxWd == 0 && !s.errInb

def onRxLinkErr (s : State) : Bool := s.rxState != .error && s.errInb

/-! ### The table of R99 -/

/-- The unit a step row belongs to; `none` for the rows that are no unit's step. -/
def unitOf : Instr → Option UnitName
  | .txHsByte | .txHsAck | .txHsNak | .txHsMismatch | .txHsTimeout => some .tx
  | .txChunkByte | .txChunkAck | .txChunkNak | .txChunkMismatch | .txChunkTimeout | .txLinkErr => some .tx
  | .alHdrByte | .alFrameAck | .alFrameNak | .alFrameStr | .alFrameDropUnknown | .alFrameDropPayloadKind => some .al
  | .alDiagByte | .alLinkErr => some .al
  | .rxHdrByte | .rxHdrDone | .rxPayByte | .rxTimeout | .rxLinkErr => some .rx
  | .tick => none
  | .frameRawBytes _ _ | .frameImage8Bit _ _ _ | .frameRawBytesWithWake _ _ | .frameStringData _ _ => none
  | .frameImage3Bit _ _ _ | .frameAck _ _ | .frameNak _ _ | .frameUnrecognised _ _ _ => none
  | .fcEncode _ _ | .fcDecode _ | .icPack3 _ _ _ _ | .icUnpack3 _ _ _ _ | .txStart _ _ _ | .rxRestart => none
  | .regRead _ | .memWrite _ _ | .memRead _ | .hostInvalid _ => none
  | .fcCount _ | .fcDims _ | .fcPaylen _ _ | .fcKind _ | .icQuant _ | .icDequant _ => none
  | .icPack3Seq _ | .icUnpack3Seq _ _ _ | .aqEnq _ | .aqDeq | .aqClear => none

/-- Whether a step row is enabled (R99); an operation that waits for nothing is enabled always, AQ.DEQ on a non-empty
queue (R164). -/
def enabled (i : Instr) (s : State) : Bool :=
  match i with
  | .txHsByte => onTxHsByte s
  | .txHsAck => onTxHsAck s
  | .txHsNak => onTxHsNak s
  | .txHsMismatch => onTxHsMismatch s
  | .txHsTimeout => onTxHsTimeout s
  | .txChunkByte => onTxChunkByte s
  | .txChunkAck => onTxChunkAck s
  | .txChunkNak => onTxChunkNak s
  | .txChunkMismatch => onTxChunkMismatch s
  | .txChunkTimeout => onTxChunkTimeout s
  | .txLinkErr => onTxLinkErr s
  | .alHdrByte => onAlHdrByte s
  | .alFrameAck => onAlFrameAck s
  | .alFrameNak => onAlFrameNak s
  | .alFrameStr => onAlFrameStr s
  | .alFrameDropUnknown => onAlFrameDropUnknown s
  | .alFrameDropPayloadKind => onAlFrameDropPayloadKind s
  | .alDiagByte => onAlDiagByte s
  | .alLinkErr => onAlLinkErr s
  | .rxHdrByte => onRxHdrByte s
  | .rxHdrDone => onRxHdrDone s
  | .rxPayByte => onRxPayByte s
  | .rxTimeout => onRxTimeout s
  | .rxLinkErr => onRxLinkErr s
  | .aqDeq => !aqEmpty s
  | .tick => true
  | .frameRawBytes _ _ | .frameImage8Bit _ _ _ | .frameRawBytesWithWake _ _ | .frameStringData _ _ => true
  | .frameImage3Bit _ _ _ | .frameAck _ _ | .frameNak _ _ | .frameUnrecognised _ _ _ => true
  | .fcEncode _ _ | .fcDecode _ | .icPack3 _ _ _ _ | .icUnpack3 _ _ _ _ | .txStart _ _ _ | .rxRestart => true
  | .regRead _ | .memWrite _ _ | .memRead _ | .hostInvalid _ => true
  | .fcCount _ | .fcDims _ | .fcPaylen _ _ | .fcKind _ | .icQuant _ | .icDequant _ => true
  | .icPack3Seq _ | .icUnpack3Seq _ _ _ | .aqEnq _ | .aqClear => true

/-- The step rows of a unit, in the order of priority of R304. -/
def unitSteps : UnitName → List Instr
  | .tx => [.txLinkErr, .txHsByte, .txHsAck, .txHsNak, .txHsMismatch, .txHsTimeout,
      .txChunkByte, .txChunkAck, .txChunkNak, .txChunkMismatch, .txChunkTimeout]
  | .al => [.alLinkErr, .alHdrByte, .alFrameAck, .alFrameNak, .alFrameStr, .alFrameDropUnknown,
      .alFrameDropPayloadKind, .alDiagByte]
  | .rx => [.rxLinkErr, .rxHdrByte, .rxHdrDone, .rxPayByte, .rxTimeout]

/-- The step a unit takes next (R99, R304); `none` when it waits (R14). -/
def select (u : UnitName) (s : State) : Option Instr := (unitSteps u).find? fun i => enabled i s

end Sys2Proof.Machine
end

