-- ==== Sys2Proof/Machine/AckListener.lean ====
section
/-! DEFINITION. The listener's steps (spec/42_ack_listener.md R170 to R181). A step that is not enabled does nothing: the
listener waits (R14, log 11). -/

namespace Sys2Proof.Machine

/-- What every fifth-byte step does first (R171): pop, `al_hdr[4] <- b`, `al_cnt <- 0`. -/
def alPopFifth (s : State) : State :=
  match s.ret with
  | b :: rest => { s with ret := rest, alHdr := { s.alHdr with h4 := b }, alCnt := 0 }
  | [] => s

/-- Log and drop the completed header (R175, R176): exactly its five bytes. -/
def alLogHeader (s : State) : State := { s with log := s.log ++ [⟨s.alHdr.h0, s.alHdr.params⟩] }

/-- AL.HDR_BYTE (R170). -/
def execAlHdrByte (s : State) : StepOutcome :=
  if onAlHdrByte s then
    match s.ret with
    | b :: rest => .next { s with ret := rest, alHdr := setHeaderByte s.alHdr s.alCnt b, alCnt := s.alCnt + 1 }
    | [] => .next s
  else .next s

/-- AL.FRAME_ACK (R172): enqueue the count of the completed header. -/
def execAlFrameAck (s : State) : StepOutcome :=
  if onAlFrameAck s then .next (aqEnq (.val (fcCount (alPopFifth s).alHdr.params)) (alPopFifth s)) else .next s

/-- AL.FRAME_NAK (R173): enqueue -1, the params ignored. -/
def execAlFrameNak (s : State) : StepOutcome :=
  if onAlFrameNak s then .next (aqEnq .nak (alPopFifth s)) else .next s

/-- AL.FRAME_STR (R174): a diagnostic line follows; the count is not used. -/
def execAlFrameStr (s : State) : StepOutcome :=
  if onAlFrameStr s then .next { alPopFifth s with alState := .diag } else .next s

/-- AL.FRAME_DROP of an unknown tag (R175). -/
def execAlFrameDropUnknown (s : State) : StepOutcome :=
  if onAlFrameDropUnknown s then .next (alLogHeader (alPopFifth s)) else .next s

/-- AL.FRAME_DROP of a payload kind (R176). -/
def execAlFrameDropPayloadKind (s : State) : StepOutcome :=
  if onAlFrameDropPayloadKind s then .next (alLogHeader (alPopFifth s)) else .next s

/-- AL.DIAG_BYTE (R178): forward one byte, the delimiter too; the delimiter ends the line. -/
def execAlDiagByte (s : State) : StepOutcome :=
  if onAlDiagByte s then
    match s.ret with
    | b :: rest =>
      .next
        { s with
          ret := rest, diag := s.diag ++ [(b, b == s.cfg.diagEol)]
          alState := if b = s.cfg.diagEol then .hdr else s.alState }
    | [] => .next s
  else .next s

/-- AL.LINK_ERR (R181). -/
def execAlLinkErr (s : State) : StepOutcome :=
  if onAlLinkErr s then .next { s with alState := .error, alLinkErr := true, evt := s.evt ++ [.alLinkErr] }
  else .next s

/-- One turn of AL: its enabled step, or waiting (R99, R304). -/
def alTurn (s : State) : StepOutcome :=
  if onAlLinkErr s then execAlLinkErr s
  else if onAlHdrByte s then execAlHdrByte s
  else if onAlFrameAck s then execAlFrameAck s
  else if onAlFrameNak s then execAlFrameNak s
  else if onAlFrameStr s then execAlFrameStr s
  else if onAlFrameDropUnknown s then execAlFrameDropUnknown s
  else if onAlFrameDropPayloadKind s then execAlFrameDropPayloadKind s
  else execAlDiagByte s

end Sys2Proof.Machine
end

