-- ==== Sys2Proof/Machine/AckQueue.lean ====
section
/-! DEFINITION. The AckQueue's three operations as instructions (spec/42_ack_listener.md R162, R164, R165). -/

namespace Sys2Proof.Machine

/-- AQ.ENQ (R162). -/
def execAqEnq (v : Entry) (s : State) : StepOutcome := .next (setResult .unit (aqEnq v s))

/-- AQ.DEQ (R164): takes the head; on an empty queue it is not enabled and waits. -/
def execAqDeq (s : State) : StepOutcome :=
  match s.aq with
  | v :: _ => .next (setResult (.entry v) (aqDrop s))
  | [] => .next s

/-- AQ.CLEAR (R165). -/
def execAqClear (s : State) : StepOutcome := .next (setResult .unit (aqClear s))

end Sys2Proof.Machine
end

