-- ==== Sys2Proof/Machine/FrameCodec.lean ====
section
/-! DEFINITION. The Frame Codec's instructions (spec/40_frame_codec.md; as host operations spec/45_host_commands.md R264): each
returns a value and changes no state of the block (R119). -/

namespace Sys2Proof.Machine

/-- FC.ENCODE as a host operation (R111, R264). -/
def execFcEncode (tag : Byte) (params : Params) (s : State) : StepOutcome :=
  match fcEncode tag params with
  | some h => .next (setResult (.header h) s)
  | none => .next (setResult .malformedFrame s)

/-- FC.DECODE as a host operation (R112, R264). -/
def execFcDecode (h : Header) (s : State) : StepOutcome :=
  match fcDecode h with
  | some (tag, params) => .next (setResult (.frame tag params) s)
  | none => .next (setResult .malformedFrame s)

/-- FC.COUNT (R114). -/
def execFcCount (params : Params) (s : State) : StepOutcome :=
  .next (setResult (.count (fcCount params).toNat) s)

/-- FC.DIMS (R115). -/
def execFcDims (params : Params) (s : State) : StepOutcome :=
  .next (setResult (.dims (fcDims params).1 (fcDims params).2) s)

/-- FC.PAYLEN (R116). -/
def execFcPaylen (tag : Tag) (params : Params) (s : State) : StepOutcome :=
  .next (setResult (.count (fcPaylen s.cfg.tag2Kind tag params)) s)

/-- FC.KIND (R117). -/
def execFcKind (tag : Tag) (s : State) : StepOutcome :=
  .next (setResult (.kind (fcKind s.cfg.tag2Kind tag)) s)

end Sys2Proof.Machine
end

