-- ==== Sys2Proof/Machine/Receiver.lean ====
section
/-! DEFINITION. The chunk receiver (spec/44_chunk_receiver.md): its five steps and RX.RESTART. A step that is not enabled does
nothing: RX waits (R14, log 11). -/

namespace Sys2Proof.Machine

/-- `rx_wd <- RX_TIMEOUT_TICKS (if > 0)`, at a byte that leaves the frame incomplete (R28, R231, R249). -/
def loadRxWd (s : State) : State :=
  if 0 < s.cfg.rxTimeoutTicks then { s with rxWd := BitVec.ofNat 32 s.cfg.rxTimeoutTicks } else s

/-- Delivery of a complete frame (R245): a packed bitmap goes through IC.UNPACK3, every other payload as received. -/
def deliver (s : State) : State :=
  let p := rxbufSeq s s.rxLen.toNat
  let data :=
    if Tag.ofByte s.rxTag = some .image3Bit then
      icUnpack3Seq s.cfg.unpackLut p (fcDims s.rxParams).2 (fcDims s.rxParams).1
    else p
  { s with dlv := s.dlv ++ [⟨s.rxTag, s.rxParams, data⟩] }

/-- RX.HDR_BYTE (R231). -/
def execRxHdrByte (s : State) : StepOutcome :=
  if onRxHdrByte s then
    match s.inb with
    | b :: rest =>
      .next (loadRxWd { s with inb := rest, rxHdr := setHeaderByte s.rxHdr s.rxCnt b, rxCnt := s.rxCnt + 1 })
    | [] => .next s
  else .next s

/-- The completed header's action (R232): unknown tag, too long, empty, or a payload to pull. -/
def rxDispatch (s : State) : State :=
  let s := { s with rxTag := s.rxHdr.h0, rxParams := s.rxHdr.params }
  match Tag.ofByte s.rxTag with
  | none => rxRaise .malformedFrame s
  | some t =>
    let len := fcPaylen s.cfg.tag2Kind t s.rxParams
    let s := { s with rxLen := BitVec.ofNat 32 len, rxGot := 0 }
    if s.cfg.maxPayload < len then rxRaise .malformedFrame s
    else if len = 0 then deliver s
    else loadRxWd { s with rxState := .payload }

/-- RX.HDR_DONE (R232): the fifth byte completes the header, which is decoded and acted on in the same step. -/
def execRxHdrDone (s : State) : StepOutcome :=
  if onRxHdrDone s then
    match s.inb with
    | b :: rest => .next (rxDispatch { s with inb := rest, rxHdr := { s.rxHdr with h4 := b }, rxCnt := 0 })
    | [] => .next s
  else .next s

/-- RX.PAY_BYTE (R240): store one byte; the last one delivers the frame, every other reloads the deadline (D6, R249;
log 10). -/
def execRxPayByte (s : State) : StepOutcome :=
  if onRxPayByte s then
    match s.inb with
    | b :: rest =>
      if s.cfg.maxPayload ≤ s.rxGot.toNat then .fault (.rxbufOutOfRange s.rxGot.toNat)
      else
        let s' := { s with inb := rest, rxbuf := Memory.write s.rxbuf s.rxGot.toNat b, rxGot := s.rxGot + 1 }
        if s.rxGot + 1 = s.rxLen then .next { deliver s' with rxState := .hdr } else .next (loadRxWd s')
    | [] => .next s
  else .next s

/-- RX.TIMEOUT (R250). -/
def execRxTimeout (s : State) : StepOutcome :=
  if onRxTimeout s then .next (rxRaise .rxTimeout s) else .next s

/-- RX.LINK_ERR (R252). -/
def execRxLinkErr (s : State) : StepOutcome :=
  if onRxLinkErr s then .next (rxRaise .linkIoFailure s) else .next s

/-- RX.RESTART (R251). -/
def execRxRestart (s : State) : StepOutcome :=
  if rxStopped s then acceptCommand (rxResume s) else rejectCommand s

/-- One turn of RX: its enabled step, or waiting (R99, R304). -/
def rxTurn (s : State) : StepOutcome :=
  if onRxLinkErr s then execRxLinkErr s
  else if onRxHdrByte s then execRxHdrByte s
  else if onRxHdrDone s then execRxHdrDone s
  else if onRxPayByte s then execRxPayByte s
  else execRxTimeout s

end Sys2Proof.Machine
end

