-- ==== Sys2Proof/Machine/Frames.lean ====
section
/-! DEFINITION. The frame rows of spec/30_encoding.md R84 as instructions: the peer puts the five header bytes on a link (R54)
and the unit that reads the link takes five turns, so a unit at a frame boundary collects the header and acts on it
(AL: R171 to R177, RX: R232 to R239). Every turn is a step of the spec; the steps one by one are instructions of their own
(log 4). -/

namespace Sys2Proof.Machine

/-- `n` turns of a unit. -/
def turns : Nat → (State → StepOutcome) → State → StepOutcome
  | 0, _, s => .next s
  | n + 1, turn, s => andThen (turn s) (turns n turn)

/-- A header arrives on a link and the link's reader takes five turns. -/
def receiveFrame (l : InLink) (h : Header) (s : State) : StepOutcome :=
  match l with
  | .ret => turns 5 alTurn { s with ret := s.ret ++ h.bytes }
  | .inb => turns 5 rxTurn { s with inb := s.inb ++ h.bytes }

/-- FRAME.RawBytes (R84). -/
def execFrameRawBytes (l : InLink) (n : U32) (s : State) : StepOutcome :=
  receiveFrame l (headerOf 0x01 (paramsC n)) s

/-- FRAME.Image8Bit (R84, R85): which of its two readings tag 0x02 gets is the configuration's choice. -/
def execFrameImage8Bit (l : InLink) (height width : U16) (s : State) : StepOutcome :=
  receiveFrame l (headerOf 0x02 (paramsD height width)) s

/-- FRAME.RawBytesWithWake (R84, R85): no behaviour is attached to "wake" (R326). -/
def execFrameRawBytesWithWake (l : InLink) (n : U32) (s : State) : StepOutcome :=
  receiveFrame l (headerOf 0x02 (paramsC n)) s

/-- FRAME.StringData (R84, R93). -/
def execFrameStringData (l : InLink) (n : U32) (s : State) : StepOutcome :=
  receiveFrame l (headerOf 0x03 (paramsC n)) s

/-- FRAME.Image3Bit (R84). -/
def execFrameImage3Bit (l : InLink) (height width : U16) (s : State) : StepOutcome :=
  receiveFrame l (headerOf 0x04 (paramsD height width)) s

/-- FRAME.Ack (R84, R86). -/
def execFrameAck (l : InLink) (n : U32) (s : State) : StepOutcome :=
  receiveFrame l (headerOf 0xFF (paramsC n)) s

/-- FRAME.Nak (R84, R88). -/
def execFrameNak (l : InLink) (x : Params) (s : State) : StepOutcome := receiveFrame l (headerOf 0x00 x) s

/-- FRAME.unrecognised (R87). -/
def execFrameUnrecognised (l : InLink) (tag : Byte) (x : Params) (s : State) : StepOutcome :=
  receiveFrame l (headerOf tag x) s

end Sys2Proof.Machine
end

