-- ==== Sys2Proof/Machine/HostOps.lean ====
section
/-! DEFINITION. Memory and register access by HOST (spec/45_host_commands.md R266 to R269). -/

namespace Sys2Proof.Machine

/-- The value of register `regno` (R21, R38, R268); `none` where no register has that number. -/
def registerValue (s : State) (regno : Nat) : Option RegValue :=
  match regno with
  | 0 => some (.num s.txState.code)
  | 1 => some (.num s.txIdx.toNat)
  | 2 => some (.num s.txTag.toNat)
  | 3 => some (.bytes [s.txParams.p0, s.txParams.p1, s.txParams.p2, s.txParams.p3])
  | 4 => some (.num s.txBase.toNat)
  | 5 => some (.num s.totalLen.toNat)
  | 6 => some (.num s.sent.toNat)
  | 7 => some (.num s.expect.toNat)
  | 8 => some (.num s.chunkRem.toNat)
  | 9 => some (.num s.wd.toNat)
  | 10 => some (.num s.txOutcome.code)
  | 11 => some (.num (entryInt s.txInfo))
  | 12 => some (.num s.alState.code)
  | 13 => some (.num s.alCnt.toNat)
  | 14 => some (.bytes s.alHdr.bytes)
  | 15 => some (.num s.aq.length)
  | 16 => some (.num (bitNum s.aqOvf))
  | 17 => some (.num (bitNum s.alLinkErr))
  | 18 => some (.num s.rxState.code)
  | 19 => some (.num s.rxCnt.toNat)
  | 20 => some (.bytes s.rxHdr.bytes)
  | 21 => some (.num s.rxTag.toNat)
  | 22 => some (.bytes [s.rxParams.p0, s.rxParams.p1, s.rxParams.p2, s.rxParams.p3])
  | 23 => some (.num s.rxLen.toNat)
  | 24 => some (.num s.rxGot.toNat)
  | 25 => some (.num s.rxWd.toNat)
  | 26 => some (.num s.rxOutcome.code)
  | 27 => some (.num (bitNum s.errOut))
  | 28 => some (.num (bitNum s.errRet))
  | 29 => some (.num (bitNum s.errInb))
  | _ => none

/-- REG.READ (R268): no side effect. -/
def execRegRead (regno : Byte) (s : State) : StepOutcome :=
  match registerValue s regno.toNat with
  | some v => .next (setResult (.register v) s)
  | none => rejectCommand s

/-- MEM.WRITE (R266). -/
def execMemWrite (addr : U32) (byte : Byte) (s : State) : StepOutcome :=
  if s.cfg.memBytes ≤ addr.toNat then rejectCommand s
  else acceptCommand { s with mem := Memory.write s.mem addr.toNat byte }

/-- MEM.READ (R267): no side effect. -/
def execMemRead (addr : U32) (s : State) : StepOutcome :=
  if s.cfg.memBytes ≤ addr.toNat then rejectCommand s
  else .next (setResult (.byte (memByte s addr.toNat)) s)

/-- HOST.invalid (R97, R269): an operation code that is not listed; the code itself has no effect. -/
def execHostInvalid (_code : Byte) (s : State) : StepOutcome := rejectCommand s

end Sys2Proof.Machine
end

