-- ==== Sys2Proof/Machine/ImageCodec.lean ====
section
/-! DEFINITION. The Image Codec's instructions (spec/41_image_codec.md) and the host operations that run it over MEM
(spec/45_host_commands.md R262, R263). -/

namespace Sys2Proof.Machine

/-- IC.QUANT (R132). -/
def execIcQuant (g : Byte) (s : State) : StepOutcome := .next (setResult (.level (icQuant g)) s)

/-- IC.DEQUANT (R133). -/
def execIcDequant (level : Level) (s : State) : StepOutcome :=
  .next (setResult (.byte (icDequant s.cfg.unpackLut level)) s)

/-- IC.PACK3, sequence form (R136); on a list that is no matrix it packs all the same (R139, log 22). -/
def execIcPack3Seq (m : List Byte) (s : State) : StepOutcome := .next (setResult (.bytes (icPack3Seq m)) s)

/-- IC.UNPACK3, sequence form (R137); on a bitmap of the wrong length missing bytes are free (U4, log 9). -/
def execIcUnpack3Seq (b : List Byte) (width height : U16) (s : State) : StepOutcome :=
  .next (setResult (.bytes (icUnpack3Seq s.cfg.unpackLut b width height)) s)

/-- IC.PACK3 over MEM (R262): the whole matrix is read before any byte is written. -/
def execIcPack3 (src : U32) (height width : U16) (dst : U32) (s : State) : StepOutcome :=
  let n := height.toNat * width.toNat
  if s.cfg.memBytes < src.toNat + n ∨ s.cfg.memBytes < dst.toNat + ceilDiv n 2 then rejectCommand s
  else acceptCommand { s with mem := Memory.writeSeq s.mem dst.toNat (icPack3Seq (memSeq s src.toNat n)) }

/-- IC.UNPACK3 over MEM (R263): exactly the required bytes are read before any byte is written. -/
def execIcUnpack3 (src : U32) (width height : U16) (dst : U32) (s : State) : StepOutcome :=
  let n := height.toNat * width.toNat
  if s.cfg.memBytes < src.toNat + ceilDiv n 2 ∨ s.cfg.memBytes < dst.toNat + n then rejectCommand s
  else
    acceptCommand
      { s with
        mem := Memory.writeSeq s.mem dst.toNat
          (icUnpack3Seq s.cfg.unpackLut (memSeq s src.toNat (ceilDiv n 2)) width height) }

end Sys2Proof.Machine
end

