-- ==== Sys2Proof/Machine/Tick.lean ====
section
/-! DEFINITION. The TICK step (spec/60_exceptions.md R311). -/

namespace Sys2Proof.Machine

/-- `wd` after a tick (R27, R311). -/
def wdTicked (s : State) : U32 := if txWaiting s ∧ s.wd ≠ 0 then s.wd - 1 else s.wd

/-- `rx_wd` after a tick (R28, R311). -/
def rxWdTicked (s : State) : U32 :=
  if 0 < s.cfg.rxTimeoutTicks ∧ s.rxWd ≠ 0 ∧ rxInFrame s then s.rxWd - 1 else s.rxWd

/-- TICK (R311): both counters, nothing else. -/
def execTick (s : State) : StepOutcome := .next { s with wd := wdTicked s, rxWd := rxWdTicked s }

end Sys2Proof.Machine
end

