-- ==== Sys2Proof/Machine/Transmitter.lean ====
section
/-! DEFINITION. The chunk transmitter (spec/43_chunk_transmitter.md): TX.START and the eleven steps. A step that is not enabled
does nothing: TX waits (R14, log 11). -/

namespace Sys2Proof.Machine

/-- `min(total_len - sent, CHUNK_SIZE)` (R197, R201, R204). -/
def nextChunk (s : State) : BitVec 6 := BitVec.ofNat 6 (min (s.totalLen.toNat - s.sent.toNat) s.cfg.chunkSize)

/-- TX goes on with the next chunk (R197, R204). -/
def txNextChunk (s : State) : State := { s with chunkRem := nextChunk s, txState := .chunkSend }

/-- TX.START (R191): busy, then range, is rejected (R192); a tag that is no payload kind clears the queue and ends the
attempt at once (R193). -/
def execTxStart (tag : Byte) (params : Params) (base : U32) (s : State) : StepOutcome :=
  if txBusy s then rejectCommand s
  else
    match payTag tag with
    | some t =>
      if s.cfg.memBytes < base.toNat + fcPaylen s.cfg.tag2Kind t params then rejectCommand s
      else
        acceptCommand { txLoad tag params base (fcPaylen s.cfg.tag2Kind t params) s with txState := .hsSend }
    | none => acceptCommand (txRaise .malformedFrame (txLoad tag params base 0 s))

/-- TX.HS_BYTE (R195): push one header byte; the fifth arms the watchdog. -/
def execTxHsByte (s : State) : StepOutcome :=
  if onTxHsByte s then
    match fcEncode s.txTag s.txParams with
    | none => .fault (.handshakeTag s.txTag)
    | some h =>
      match headerByte h s.txIdx.toNat with
      | none => .fault (.headerIndex s.txIdx.toNat)
      | some b =>
        if s.txIdx = 4 then
          .next
            { s with
              out := s.out ++ [b], txIdx := s.txIdx + 1, txState := .hsWait
              wd := BitVec.ofNat 32 s.cfg.handshakeTimeoutTicks }
        else .next { s with out := s.out ++ [b], txIdx := s.txIdx + 1 }
  else .next s

/-- TX.HS_ACK (R197). -/
def execTxHsAck (s : State) : StepOutcome :=
  if onTxHsAck s then
    if s.totalLen = 0 then .next (txRaise .success (aqDrop s)) else .next (txNextChunk (aqDrop s))
  else .next s

/-- TX.HS_NAK (R198). -/
def execTxHsNak (s : State) : StepOutcome :=
  if onTxHsNak s then .next (txRaise .peerNak (aqDrop s)) else .next s

/-- TX.HS_MISMATCH (R199): the wrong value is kept in `tx_info`. -/
def execTxHsMismatch (s : State) : StepOutcome :=
  if onTxHsMismatch s then
    match s.aq with
    | v :: _ => .next (txRaise .protocolMismatch { aqDrop s with txInfo := v })
    | [] => .next s
  else .next s

/-- TX.HS_TIMEOUT (R200). -/
def execTxHsTimeout (s : State) : StepOutcome :=
  if onTxHsTimeout s then .next (txRaise .handshakeTimeout s) else .next s

/-- TX.CHUNK_BYTE (R202): push one payload byte, read from MEM now (R70); the chunk's last byte arms the watchdog. -/
def execTxChunkByte (s : State) : StepOutcome :=
  if onTxChunkByte s then
    let a := s.txBase.toNat + s.sent.toNat
    if s.cfg.memBytes ≤ a then .fault (.memOutOfRange a)
    else if s.chunkRem = 1 then
      .next
        { s with
          out := s.out ++ [memByte s a], sent := s.sent + 1, chunkRem := s.chunkRem - 1, txState := .chunkWait
          wd := BitVec.ofNat 32 s.cfg.chunkAckTimeoutTicks }
    else .next { s with out := s.out ++ [memByte s a], sent := s.sent + 1, chunkRem := s.chunkRem - 1 }
  else .next s

/-- TX.CHUNK_ACK (R204). -/
def execTxChunkAck (s : State) : StepOutcome :=
  if onTxChunkAck s then
    if s.sent = s.totalLen then .next (txRaise .success { aqDrop s with expect := s.expect + 1 })
    else .next (txNextChunk { aqDrop s with expect := s.expect + 1 })
  else .next s

/-- TX.CHUNK_NAK (R205). -/
def execTxChunkNak (s : State) : StepOutcome :=
  if onTxChunkNak s then .next (txRaise .peerNak (aqDrop s)) else .next s

/-- TX.CHUNK_MISMATCH (R206). -/
def execTxChunkMismatch (s : State) : StepOutcome :=
  if onTxChunkMismatch s then
    match s.aq with
    | v :: _ => .next (txRaise .protocolMismatch { aqDrop s with txInfo := v })
    | [] => .next s
  else .next s

/-- TX.CHUNK_TIMEOUT (R207). -/
def execTxChunkTimeout (s : State) : StepOutcome :=
  if onTxChunkTimeout s then .next (txRaise .chunkAckTimeout s) else .next s

/-- TX.LINK_ERR (R209). -/
def execTxLinkErr (s : State) : StepOutcome :=
  if onTxLinkErr s then .next (txRaise .linkIoFailure s) else .next s

end Sys2Proof.Machine
end

