-- ==== Sys2Proof/Machine/Dispatch.lean ====
section
/-! DEFINITION. One arm per instruction: its meaning. -/

namespace Sys2Proof.Machine

def exec (i : Instr) (s : State) : Host.Outcome State Fault Refusal :=
  match i with
  | .frameRawBytes l n => Sys2Proof.Machine.execFrameRawBytes l n s
  | .frameImage8Bit l height width => Sys2Proof.Machine.execFrameImage8Bit l height width s
  | .frameRawBytesWithWake l n => Sys2Proof.Machine.execFrameRawBytesWithWake l n s
  | .frameStringData l n => Sys2Proof.Machine.execFrameStringData l n s
  | .frameImage3Bit l height width => Sys2Proof.Machine.execFrameImage3Bit l height width s
  | .frameAck l n => Sys2Proof.Machine.execFrameAck l n s
  | .frameNak l x => Sys2Proof.Machine.execFrameNak l x s
  | .frameUnrecognised l tag x => Sys2Proof.Machine.execFrameUnrecognised l tag x s
  | .fcEncode tag params => Sys2Proof.Machine.execFcEncode tag params s
  | .fcDecode h => Sys2Proof.Machine.execFcDecode h s
  | .icPack3 src height width dst => Sys2Proof.Machine.execIcPack3 src height width dst s
  | .icUnpack3 src width height dst => Sys2Proof.Machine.execIcUnpack3 src width height dst s
  | .txStart tag params base => Sys2Proof.Machine.execTxStart tag params base s
  | .rxRestart => Sys2Proof.Machine.execRxRestart s
  | .regRead regno => Sys2Proof.Machine.execRegRead regno s
  | .memWrite addr byte => Sys2Proof.Machine.execMemWrite addr byte s
  | .memRead addr => Sys2Proof.Machine.execMemRead addr s
  | .hostInvalid code => Sys2Proof.Machine.execHostInvalid code s
  | .fcCount params => Sys2Proof.Machine.execFcCount params s
  | .fcDims params => Sys2Proof.Machine.execFcDims params s
  | .fcPaylen tag params => Sys2Proof.Machine.execFcPaylen tag params s
  | .fcKind tag => Sys2Proof.Machine.execFcKind tag s
  | .icQuant g => Sys2Proof.Machine.execIcQuant g s
  | .icDequant level => Sys2Proof.Machine.execIcDequant level s
  | .icPack3Seq m => Sys2Proof.Machine.execIcPack3Seq m s
  | .icUnpack3Seq b width height => Sys2Proof.Machine.execIcUnpack3Seq b width height s
  | .aqEnq v => Sys2Proof.Machine.execAqEnq v s
  | .aqDeq => Sys2Proof.Machine.execAqDeq s
  | .aqClear => Sys2Proof.Machine.execAqClear s
  | .txHsByte => Sys2Proof.Machine.execTxHsByte s
  | .txHsAck => Sys2Proof.Machine.execTxHsAck s
  | .txHsNak => Sys2Proof.Machine.execTxHsNak s
  | .txHsMismatch => Sys2Proof.Machine.execTxHsMismatch s
  | .txHsTimeout => Sys2Proof.Machine.execTxHsTimeout s
  | .txChunkByte => Sys2Proof.Machine.execTxChunkByte s
  | .txChunkAck => Sys2Proof.Machine.execTxChunkAck s
  | .txChunkNak => Sys2Proof.Machine.execTxChunkNak s
  | .txChunkMismatch => Sys2Proof.Machine.execTxChunkMismatch s
  | .txChunkTimeout => Sys2Proof.Machine.execTxChunkTimeout s
  | .txLinkErr => Sys2Proof.Machine.execTxLinkErr s
  | .alHdrByte => Sys2Proof.Machine.execAlHdrByte s
  | .alFrameAck => Sys2Proof.Machine.execAlFrameAck s
  | .alFrameNak => Sys2Proof.Machine.execAlFrameNak s
  | .alFrameStr => Sys2Proof.Machine.execAlFrameStr s
  | .alFrameDropUnknown => Sys2Proof.Machine.execAlFrameDropUnknown s
  | .alFrameDropPayloadKind => Sys2Proof.Machine.execAlFrameDropPayloadKind s
  | .alDiagByte => Sys2Proof.Machine.execAlDiagByte s
  | .alLinkErr => Sys2Proof.Machine.execAlLinkErr s
  | .rxHdrByte => Sys2Proof.Machine.execRxHdrByte s
  | .rxHdrDone => Sys2Proof.Machine.execRxHdrDone s
  | .rxPayByte => Sys2Proof.Machine.execRxPayByte s
  | .rxTimeout => Sys2Proof.Machine.execRxTimeout s
  | .rxLinkErr => Sys2Proof.Machine.execRxLinkErr s
  | .tick => Sys2Proof.Machine.execTick s

end Sys2Proof.Machine
end

