-- ==== Sys2Proof/Machine/Fetch.lean ====
section
/-! DEFINITION. What moves next: the agenda's choices (spec/00_scope.md R14, spec/60_exceptions.md R322), the environment's own
steps (R54, R38, R330), and where an instruction's bytes are found. -/

namespace Sys2Proof.Machine

/-- What the next step is. -/
inductive Fetched where
  /-- An instruction to run in this state. -/
  | instr (i : Instr) (s : State)
  /-- The environment has moved, or every unit waits. -/
  | env (s : State)
  /-- A command that is no instruction. -/
  | bad (e : DecodeError)
deriving DecidableEq, Repr

/-- PEER_RET or PEER_INB appends a byte (R54). -/
def peerByte (l : InLink) (b : Byte) (s : State) : State :=
  match l with
  | .ret => { s with ret := s.ret ++ [b] }
  | .inb => { s with inb := s.inb ++ [b] }

/-- LINK_OUT takes the head of OUT (R54). -/
def linkOut (s : State) : State := { s with out := s.out.tail }

/-- HOST takes the head of a channel (R54, R271). -/
def hostPop (c : HostChannel) (s : State) : State :=
  match c with
  | .diag => { s with diag := s.diag.tail }
  | .log => { s with log := s.log.tail }
  | .dlv => { s with dlv := s.dlv.tail }
  | .evt => { s with evt := s.evt.tail }

/-- LINKERR sets an error input (R38); nothing but reset clears it. -/
def linkError (l : LinkName) (s : State) : State :=
  match l with
  | .out => { s with errOut := true }
  | .ret => { s with errRet := true }
  | .inb => { s with errInb := true }

/-- Reset (R330): the configuration is kept, the choices still to come are kept, memory is free anew (log 16). -/
def resetBlock (s : State) : State := { State.resetWith s.cfg (s.epoch + 1) with agenda := s.agenda }

/-- The step the block takes when the agenda is empty: AL's, else TX's, else RX's (log 2). -/
def selectAny (s : State) : Option Instr :=
  match select .al s with
  | some i => some i
  | none =>
    match select .tx s with
    | some i => some i
    | none => select .rx s

/-- A unit's turn: its enabled step, or waiting (R14). -/
def fetchTurn (i : Option Instr) (s : State) : Fetched :=
  match i with
  | some i => .instr i s
  | none => .env s

/-- A command's or a header's bytes, decoded (R96, R84). -/
def fetchBytes (p : Port) (bs : List Byte) (s : State) : Fetched :=
  match decode s.cfg.tag2Kind p bs with
  | .ok i => .instr i s
  | .error e => .bad e

/-- One choice of the agenda, taken in `s`. -/
def fetchItem (item : AgendaItem) (s : State) : Fetched :=
  match item with
  | .command bs => fetchBytes .command bs s
  | .frame l h => fetchBytes (.link l) h.bytes s
  | .turn u => fetchTurn (select u s) s
  | .tick => .instr .tick s
  | .peerByte l b => .env (peerByte l b s)
  | .linkOut => .env (linkOut s)
  | .hostPop c => .env (hostPop c s)
  | .linkErr l => .env (linkError l s)
  | .reset => .env (resetBlock s)

/-- The next step: the agenda's next choice, or the block's own step when the agenda is empty (log 1, log 2). -/
def fetch (s : State) : Fetched :=
  match s.agenda with
  | item :: rest => fetchItem item { s with agenda := rest }
  | [] => fetchTurn (selectAny s) s

/-- The agenda item that presents an opcode-table word (log 5). -/
def tableItem (nbits w : Nat) : AgendaItem :=
  let w := w % 2 ^ nbits
  if isFramePattern nbits w then .frame (tableLink (headerOfPattern w)) (headerOfPattern w)
  else .command (commandOfPattern w)

end Sys2Proof.Machine
end

