-- ==== Sys2Proof/Machine/Step.lean ====
section
/-! DEFINITION. One step of the machine, and the state whose next step runs an opcode-table word. -/

namespace Sys2Proof.Machine

/-- One atomic step (R14, R65): what `fetch` finds is run. -/
def step (s : State) : Host.Outcome State Fault Refusal :=
  match fetch s with
  | .instr i s' => exec i s'
  | .env s' => .next s'
  | .bad e => .refused (.malformedCommand e)

/-- `s` with the instruction of an opcode-table word as the next choice of the agenda: a command on the command port, or
a header on a link (log 1, log 5). -/
def State.withFetchWord (s : State) (nbits w : Nat) : State := { s with agenda := tableItem nbits w :: s.agenda }

end Sys2Proof.Machine
end

