-- ==== Sys2Proof/Machine/RetryController.lean ====
section
/-! DEFINITION. The Retry Controller (spec/45_host_commands.md R275 to R281): a loop HOST runs around TX.START and the TX_DONE
event, no unit of the block and no part of State. First the loop over the answers its attempts get, then the loop over the
machine: HOST's turns between the steps of the block (log 17). -/

namespace Sys2Proof.Machine

/-- The classes of R278. -/
inductive OutcomeClass where
  | success
  | recoverable
  | fatal
deriving DecidableEq, Repr

/-- The class of an attempt's outcome (R278, R290); codes that are no attempt's outcome have none. -/
def outcomeClass : OutcomeCode → Option OutcomeClass
  | .success => some .success
  | .handshakeTimeout => some .recoverable
  | .peerNak => some .recoverable
  | .protocolMismatch => some .fatal
  | .malformedFrame => some .fatal
  | .linkIoFailure => some .fatal
  | .chunkAckTimeout => some .fatal
  | .rxTimeout => some .fatal
  | .none => none
  | .cmdRejected => none

/-- The two modes of R275. -/
inductive RetryMode where
  | single
  | continuous
deriving DecidableEq, Repr

/-- What one TX.START came to: refused, or its attempt's TX_DONE outcome. -/
inductive AttemptAnswer where
  | rejected
  | done (code : OutcomeCode)
deriving DecidableEq, Repr

/-- What the controller has done: how often it issued TX.START, how often it waited BACKOFF_MS, and its answer; `none`
while it still waits for an attempt to end. -/
structure RetryRun where
  starts : Nat
  waits : Nat
  answer : Option AttemptAnswer
deriving DecidableEq, Repr

/-! ### The loop over answers -/

/-- Whether the outcome of attempt number `attempts` ends the call: always in single-shot mode (R276); in continuous mode
(R277) success, a fatal outcome, and any outcome of attempt MAX_ATTEMPTS. -/
def retryEnds (mode : RetryMode) (maxAttempts : Option Nat) (attempts : Nat) (code : OutcomeCode) : Bool :=
  match mode with
  | .single => true
  | .continuous =>
    decide (code = .success) || decide (outcomeClass code = some .fatal) || decide (maxAttempts = some attempts)

/-- RC.SINGLE (R276). -/
def rcSingle : List AttemptAnswer → RetryRun
  | [] => ⟨1, 0, none⟩
  | a :: _ => ⟨1, 0, some a⟩

/-- One more attempt and wait before what comes after. -/
def RetryRun.afterWait (r : RetryRun) : RetryRun := { r with starts := r.starts + 1, waits := r.waits + 1 }

/-- RC.CONTINUOUS (R277) after `attempts` attempts: an outcome that does not end the call waits and retries. -/
def rcContinuous (maxAttempts : Option Nat) : Nat → List AttemptAnswer → RetryRun
  | _, [] => ⟨1, 0, none⟩
  | _, .rejected :: _ => ⟨1, 0, some .rejected⟩
  | attempts, .done code :: rest =>
    if retryEnds .continuous maxAttempts (attempts + 1) code then ⟨1, 0, some (.done code)⟩
    else (rcContinuous maxAttempts (attempts + 1) rest).afterWait

/-! ### The loop over the machine -/

/-- The operands of RC.SINGLE and RC.CONTINUOUS, the same for every attempt (R276, R277). -/
structure Attempt where
  tag : Byte
  params : Params
  base : U32
deriving DecidableEq, Repr

/-- `TX.START(tag, params, base)`. -/
def Attempt.start (a : Attempt) : Instr := .txStart a.tag a.params a.base

/-- Where HOST stands. -/
inductive RetryPhase where
  /-- Host operations still to issue before the first TX.START (R104). DESIGN CHOICE (log 21), unsafe: HOST goes on to the
  next one whatever status the last returned, of which R104 says nothing. -/
  | prepare (ops : List Instr)
  /-- TX.START is to be issued. -/
  | start
  /-- "wait for TX_DONE(outcome, ...) on EVT"; `stale` elements of EVT are older than the attempt. -/
  | await (stale : Nat)
  /-- "wait BACKOFF_MS". -/
  | backoff
  /-- The call has returned. -/
  | over
deriving DecidableEq, Repr

/-- HOST's own state while it runs the loop: no state of the block (R275). -/
structure RetryState where
  attempt : Attempt
  mode : RetryMode
  phase : RetryPhase
  /-- What the attempts have answered so far, first one first. -/
  answers : List AttemptAnswer
  run : RetryRun
deriving DecidableEq, Repr

/-- The call of RC.SINGLE or RC.CONTINUOUS, after the operations `ops`. -/
def RetryState.begin (ops : List Instr) (attempt : Attempt) (mode : RetryMode) : RetryState :=
  ⟨attempt, mode, .prepare ops, [], ⟨0, 0, none⟩⟩

/-- The call returns an answer. -/
def RetryState.answered (r : RetryState) (a : AttemptAnswer) : RetryState :=
  { r with phase := .over, answers := r.answers ++ [a], run := { r.run with answer := some a } }

/-- After TX.START has returned `result` (R276, R277): refused, or waiting for the event; `stale` elements were on EVT
before. -/
def RetryState.started (stale : Nat) (result : Result) (r : RetryState) : RetryState :=
  let r := { r with run := { r.run with starts := r.run.starts + 1 } }
  if result = .status .cmdRejected then r.answered .rejected else { r with phase := .await stale }

/-- After the attempt's TX_DONE (R276, R277): the answer, or the backoff before the next attempt. -/
def RetryState.ended (maxAttempts : Option Nat) (code : OutcomeCode) (r : RetryState) : RetryState :=
  if retryEnds r.mode maxAttempts (r.answers.length + 1) code then r.answered (.done code)
  else
    { r with
      phase := .backoff, answers := r.answers ++ [.done code], run := { r.run with waits := r.run.waits + 1 } }

/-- After taking the element `e` of EVT: one older than the attempt and one that is no TX_DONE are passed over. -/
def RetryState.seen (maxAttempts : Option Nat) (stale : Nat) (e : EventRecord) (r : RetryState) : RetryState :=
  match stale, e with
  | n + 1, _ => { r with phase := .await n }
  | 0, .txDone code _ _ _ => r.ended maxAttempts code
  | 0, _ => { r with phase := .await 0 }

/-- HOST and block together. -/
abbrev HostOutcome := Host.Outcome (RetryState × State) Fault Refusal

/-- The block's answer with what HOST makes of it. -/
def withHost (f : State → RetryState) : StepOutcome → HostOutcome
  | .next t => .next (f t, t)
  | .fault e => .fault e
  | .refused e => .refused e

/-- HOST makes a choice of its own: it comes before the choices still to come, and the block takes one step. -/
def hostAct (item : AgendaItem) (s : State) : StepOutcome := step { s with agenda := item :: s.agenda }

/-- The command of a host operation (R96). -/
def hostCommand (i : Instr) : AgendaItem := .command (i.command.getD [])

/-- One turn of HOST in the loop: it issues the next operation or TX.START, takes an element of EVT, ends the wait, or has
nothing to do. -/
def retryTurn (r : RetryState) (s : State) : HostOutcome :=
  match r.phase with
  | .prepare [] => .next ({ r with phase := .start }, s)
  | .prepare (i :: ops) => withHost (fun _ => { r with phase := .prepare ops }) (hostAct (hostCommand i) s)
  | .start => withHost (fun t => r.started s.evt.length t.result) (hostAct (hostCommand r.attempt.start) s)
  | .await stale =>
    match s.evt with
    | [] => .next (r, s)
    | e :: _ => withHost (fun _ => r.seen s.cfg.maxAttempts stale e) (hostAct (.hostPop .evt) s)
  | .backoff => .next ({ r with phase := .start }, s)
  | .over => .next (r, s)

/-- Who moves next: HOST in its loop, or the machine by its own step. -/
inductive RetryMove where
  | host
  | machine
deriving DecidableEq, Repr

/-- The loop run beside the machine, in the order the moves give: every order is some list of moves, and how long a
backoff lasts is how many moves of the machine lie in it. -/
def retryRun : List RetryMove → RetryState → State → HostOutcome
  | [], r, s => .next (r, s)
  | .host :: moves, r, s =>
    match retryTurn r s with
    | .next (r', t) => retryRun moves r' t
    | .fault e => .fault e
    | .refused e => .refused e
  | .machine :: moves, r, s =>
    match step s with
    | .next t => retryRun moves r t
    | .fault e => .fault e
    | .refused e => .refused e

end Sys2Proof.Machine
end

