-- ==== Sys2Proof/Machine/HostPrograms.lean ====
section
/-! DEFINITION. The host commands of spec/30_encoding.md R104 as sequences of host operations, what the external collaborators
do left out (R6). What R104 leaves open about them is log 21. -/

namespace Sys2Proof.Machine

/-- A host command: the operations before TX.START, the operands of TX.START, and whether it stands in the Retry
Controller's continuous loop. -/
structure HostProgram where
  prepare : List Instr
  attempt : Attempt
  mode : RetryMode
deriving DecidableEq, Repr

/-- The expansion R104 gives, TX.START once. -/
def HostProgram.ops (p : HostProgram) : List Instr := p.prepare ++ [p.attempt.start]

/-- The command at its beginning, to be run beside the machine by `retryRun`: the operations before, then TX.START once
(single-shot) or in the loop of R277 (continuous). -/
def HostProgram.begin (p : HostProgram) : RetryState := RetryState.begin p.prepare p.attempt p.mode

/-- `MEM.WRITE` of a byte sequence from `a` up, one operation a byte (R266). DESIGN CHOICE (log 21): R104 says nothing of
an address past 0xFFFFFFFF; this list by itself would go on at address 0, and no host command below uses it so. -/
def hostWrite : U32 → List Byte → List Instr
  | _, [] => []
  | a, b :: bs => .memWrite a b :: hostWrite (a + 1) bs

/-- Whether `n` bytes from `a` have u32 addresses and a u32 count. DESIGN CHOICE (log 21): R104 gives no meaning to a
command whose bytes would run past address 0xFFFFFFFF or whose count does not fit the header; such a command has no
expansion here. -/
def hostFits (a : U32) (n : Nat) : Bool := decide (a.toNat + n ≤ 2 ^ 32) && decide (n < 2 ^ 32)

/-- "send an 8-bit image" (R104): the matrix of height · width bytes at `a`, then TX.START; "needs TAG2_KIND = Image8Bit".
No expansion for another meaning of tag 0x02, a matrix of another size, or bytes that do not fit (log 21). -/
def hostSendImage8 (c : Config) (matrix : List Byte) (height width : U16) (a : U32) : Option HostProgram :=
  if c.tag2Kind = .image8Bit ∧ matrix.length = height.toNat * width.toNat ∧ hostFits a matrix.length then
    some ⟨hostWrite a matrix, ⟨0x02, paramsD height width, a⟩, .single⟩
  else none

/-- "send a packed 3-bit image (optionally in continuous-retry mode)" (R104): the matrix at `a`, packed to `b`, then
TX.START, "in continuous mode wrapped in the Retry Controller loop". No expansion for a matrix of another size or bytes
that do not fit (log 21). -/
def hostSendImage3 (matrix : List Byte) (height width : U16) (a b : U32) (mode : RetryMode) : Option HostProgram :=
  if matrix.length = height.toNat * width.toNat ∧ hostFits a matrix.length then
    some ⟨hostWrite a matrix ++ [.icPack3 a height width b], ⟨0x04, paramsD height width, b⟩, mode⟩
  else none

/-- "send N synthetic test bytes (optionally continuous)" (R104); which bytes is the caller's choice. No expansion for
bytes that do not fit (log 21). -/
def hostSendRaw (bytes : List Byte) (a : U32) (mode : RetryMode) : Option HostProgram :=
  if hostFits a bytes.length then
    some ⟨hostWrite a bytes, ⟨0x01, paramsC (BitVec.ofNat 32 bytes.length), a⟩, mode⟩
  else none

/-- "send a UTF-8 string" (R104). No expansion for bytes that do not fit (log 21). -/
def hostSendString (bytes : List Byte) (a : U32) : Option HostProgram :=
  if hostFits a bytes.length then
    some ⟨hostWrite a bytes, ⟨0x03, paramsC (BitVec.ofNat 32 bytes.length), a⟩, .single⟩
  else none

end Sys2Proof.Machine
end

