-- ==== Sys2Proof/Safety.lean ====
section
/-! DEFINITION. What holds in a good run, in the terms the statements use: the invariants of the units (spec/43_chunk_transmitter.md
R212 and the "always hold here" notes of the steps), the tables of control transfer (R183, R217, R255), what each agent may
write (R306), and the runs the spec calls faulty (U5). -/

namespace Sys2Proof.Machine

/-! ### Invariants -/

/-- Both memories are canonical and hold no address outside their space (R51). -/
def MemoryInv (s : State) : Prop :=
  Memory.wf s.mem ∧ Memory.wf s.rxbuf ∧ (∀ c ∈ s.mem, c.1 < s.cfg.memBytes) ∧
    (∀ c ∈ s.rxbuf, c.1 < s.cfg.maxPayload)

/-- The session registers of a running attempt are those of an accepted TX.START (R191, R192): a payload kind, its length,
a payload inside MEM, no outcome yet. -/
def TxSession (s : State) : Prop :=
  (∃ t, payTag s.txTag = some t ∧ s.totalLen.toNat = fcPaylen s.cfg.tag2Kind t s.txParams) ∧
    s.txBase.toNat + s.totalLen.toNat ≤ s.cfg.memBytes ∧ s.txOutcome = .none ∧ s.txInfo = .val 0

/-- min((`expect` + 1) · CHUNK_SIZE, `total_len`): where the current chunk ends (R212). -/
def chunkEnd (s : State) : Nat := min ((s.expect.toNat + 1) * s.cfg.chunkSize) s.totalLen.toNat

/-- The invariants of a running attempt (R212), with what R195 says always holds in TX_HS_SEND, and the bound of the
watchdog in the wait states (R27). -/
def TxInv (s : State) : Prop :=
  match s.txState with
  | .idle => True
  | .hsSend => TxSession s ∧ s.sent = 0 ∧ s.expect = 0 ∧ s.txIdx.toNat < 5
  | .hsWait =>
    TxSession s ∧ s.sent = 0 ∧ s.expect = 0 ∧ s.txIdx = 5 ∧ s.wd.toNat ≤ s.cfg.handshakeTimeoutTicks
  | .chunkSend =>
    TxSession s ∧ 1 ≤ s.chunkRem.toNat ∧ s.chunkRem.toNat ≤ s.cfg.chunkSize ∧
      s.sent.toNat + s.chunkRem.toNat = chunkEnd s ∧ s.expect.toNat * s.cfg.chunkSize ≤ s.sent.toNat
  | .chunkWait =>
    TxSession s ∧ s.chunkRem = 0 ∧ s.sent.toNat = chunkEnd s ∧ s.expect.toNat * s.cfg.chunkSize < s.sent.toNat ∧
      s.wd.toNat ≤ s.cfg.chunkAckTimeoutTicks

/-- The listener: `al_cnt` is 0..4, 0 inside a diagnostic line (R178), and AL_ERROR goes with `al_link_err` and a failed
return link (R181). -/
def AlInv (s : State) : Prop :=
  s.alCnt.toNat ≤ 4 ∧ (s.alState = .diag → s.alCnt = 0) ∧ (s.alState = .error ↔ s.alLinkErr = true) ∧
    (s.alState = .error → s.errRet = true)

/-- The queue holds at most ACKQ_DEPTH entries (R32). -/
def QueueInv (s : State) : Prop := ∀ d, s.cfg.ackqDepth = some d → s.aq.length ≤ d

/-- The receiver: `rx_cnt` is 0..4, 0 inside a payload; there `rx_got` < `rx_len` ≤ MAX_PAYLOAD (R240), the length is the
one the header announced, and every byte below `rx_got` has been written; RX_ERROR goes with a stopping outcome (R253). -/
def RxInv (s : State) : Prop :=
  match s.rxState with
  | .hdr => s.rxCnt.toNat ≤ 4 ∧ s.rxOutcome = .none
  | .payload =>
    s.rxCnt = 0 ∧ s.rxOutcome = .none ∧ s.rxGot.toNat < s.rxLen.toNat ∧ s.rxLen.toNat ≤ s.cfg.maxPayload ∧
      (∃ t, Tag.ofByte s.rxTag = some t ∧ s.rxLen.toNat = fcPaylen s.cfg.tag2Kind t s.rxParams) ∧
      ∀ i < s.rxGot.toNat, Memory.read? s.rxbuf i ≠ none
  | .error =>
    s.rxCnt.toNat ≤ 4 ∧
      (s.rxOutcome = .malformedFrame ∨ s.rxOutcome = .linkIoFailure ∨ s.rxOutcome = .rxTimeout)

/-- Which outcomes TX can report (R291), over all its states. -/
def TxOutcomeInv (s : State) : Prop := s.txOutcome ≠ .rxTimeout ∧ s.txOutcome ≠ .cmdRejected

/-- A run is faulty once an entry has been dropped from a finite queue (U5). -/
def overflowed (s : State) : Bool := s.aqOvf

/-! ### Control transfer -/

/-- The next choice of `s` is a command that decodes to `i` (R96). -/
def CommandIs (i : Instr) (s : State) : Prop :=
  ∃ bs rest, s.agenda = .command bs :: rest ∧ decode s.cfg.tag2Kind .command bs = .ok i

/-- `s` to `t` is an accepted TX.START with a payload kind (R191): the session is loaded, the queue cleared. -/
def TxStarts (s t : State) : Prop :=
  ∃ tag params base, CommandIs (.txStart tag params base) s ∧ payTag tag ≠ none ∧ t.txState = .hsSend ∧ t.txTag = tag ∧
    t.txParams = params ∧ t.txBase = base ∧ t.aq = [] ∧ t.result = .status .accepted

/-- The attempt has ended by this step (R211, R216): outcome `x`, back to TX_IDLE, TX_DONE emitted. -/
def TxEnds (x : OutcomeCode) (s t : State) : Prop :=
  t.txState = .idle ∧ t.txOutcome = x ∧ t.evt = s.evt ++ [.txDone x t.txInfo t.sent t.expect]

/-- The table of R217: every change of `tx_state` from `s` to `t`. -/
def TxMove (s t : State) : Prop :=
  t.txState = s.txState ∨
  match s.txState with
  | .idle => TxStarts s t
  | .hsSend => (t.txState = .hsWait ∧ s.txIdx = 4 ∧ s.errOut = false) ∨ (s.errOut = true ∧ TxEnds .linkIoFailure s t)
  | .hsWait =>
    (s.errOut = true ∧ TxEnds .linkIoFailure s t) ∨
    (s.errOut = false ∧
      ((s.aq.head? = some (.val s.totalLen) ∧ s.totalLen ≠ 0 ∧ t.txState = .chunkSend) ∨
       (s.aq.head? = some (.val s.totalLen) ∧ s.totalLen = 0 ∧ TxEnds .success s t) ∨
       (s.aq.head? = some .nak ∧ TxEnds .peerNak s t) ∨
       (∃ v, s.aq.head? = some (.val v) ∧ v ≠ s.totalLen ∧ t.txInfo = .val v ∧ TxEnds .protocolMismatch s t) ∨
       (s.aq = [] ∧ s.wd = 0 ∧ TxEnds .handshakeTimeout s t)))
  | .chunkSend =>
    (t.txState = .chunkWait ∧ s.chunkRem = 1 ∧ s.errOut = false) ∨ (s.errOut = true ∧ TxEnds .linkIoFailure s t)
  | .chunkWait =>
    (s.errOut = true ∧ TxEnds .linkIoFailure s t) ∨
    (s.errOut = false ∧
      ((s.aq.head? = some (.val s.expect) ∧ s.sent ≠ s.totalLen ∧ t.txState = .chunkSend) ∨
       (s.aq.head? = some (.val s.expect) ∧ s.sent = s.totalLen ∧ TxEnds .success s t) ∨
       (s.aq.head? = some .nak ∧ TxEnds .peerNak s t) ∨
       (∃ v, s.aq.head? = some (.val v) ∧ v ≠ s.expect ∧ t.txInfo = .val v ∧ TxEnds .protocolMismatch s t) ∨
       (s.aq = [] ∧ s.wd = 0 ∧ TxEnds .chunkAckTimeout s t)))

/-- The table of R183: every change of `al_state` by one step of AL. -/
def AlMove (s t : State) : Prop :=
  t.alState = s.alState ∨
  (t.alState = .error ∧ s.errRet = true) ∨
  (s.alState = .hdr ∧ t.alState = .diag ∧ s.alCnt = 4 ∧ s.alHdr.h0 = 0x03 ∧ s.errRet = false) ∨
  (s.alState = .diag ∧ t.alState = .hdr ∧ s.ret.head? = some s.cfg.diagEol ∧ s.errRet = false)

/-- The frame is delivered by this step (R245). -/
def RxDelivers (s t : State) : Prop := ∃ r, t.dlv = s.dlv ++ [r] ∧ r.tag = t.rxTag ∧ r.params = t.rxParams

/-- RX has stopped by this step (R253); that RX_ERR carries the registers as the step leaves them is DEDUCED (log 19). -/
def RxStops (x : OutcomeCode) (s t : State) : Prop :=
  t.rxState = .error ∧ t.rxOutcome = x ∧ t.evt = s.evt ++ [.rxErr x t.rxTag t.rxParams t.rxGot] ∧ t.dlv = s.dlv

/-- The header that the next byte of INB completes (R232). -/
def rxNextHeader (s : State) : Option Header := s.inb.head?.map fun b => { s.rxHdr with h4 := b }

/-- The table of R255: every change of `rx_state` by one step of RX or by RX.RESTART. -/
def RxMove (s t : State) : Prop :=
  t.rxState = s.rxState ∨
  match s.rxState with
  | .hdr =>
    (s.errInb = false ∧ s.rxCnt = 4 ∧ t.rxState = .payload ∧
      ∃ h tag, rxNextHeader s = some h ∧ Tag.ofByte h.h0 = some tag ∧
        t.rxLen.toNat = fcPaylen s.cfg.tag2Kind tag h.params ∧ 0 < t.rxLen.toNat ∧ t.rxLen.toNat ≤ s.cfg.maxPayload) ∨
    (s.errInb = false ∧ s.rxCnt = 4 ∧ RxStops .malformedFrame s t ∧
      ∃ h, rxNextHeader s = some h ∧ ∀ tag, Tag.ofByte h.h0 = some tag →
        s.cfg.maxPayload < fcPaylen s.cfg.tag2Kind tag h.params) ∨
    (s.errInb = false ∧ s.rxCnt ≠ 0 ∧ 0 < s.cfg.rxTimeoutTicks ∧ s.inb = [] ∧ s.rxWd = 0 ∧ RxStops .rxTimeout s t) ∨
    (s.errInb = true ∧ RxStops .linkIoFailure s t)
  | .payload =>
    (s.errInb = false ∧ s.inb ≠ [] ∧ s.rxGot + 1 = s.rxLen ∧ t.rxState = .hdr ∧ RxDelivers s t) ∨
    (s.errInb = false ∧ 0 < s.cfg.rxTimeoutTicks ∧ s.inb = [] ∧ s.rxWd = 0 ∧ RxStops .rxTimeout s t) ∨
    (s.errInb = true ∧ RxStops .linkIoFailure s t)
  | .error => CommandIs .rxRestart s ∧ t.rxState = .hdr ∧ t.rxCnt = 0 ∧ t.rxOutcome = .none

/-! ### Ownership (R306) -/

/-- Registers 0 to 11 are the same (owner TX). -/
def TxRegsEq (s t : State) : Prop :=
  t.txState = s.txState ∧ t.txIdx = s.txIdx ∧ t.txTag = s.txTag ∧ t.txParams = s.txParams ∧ t.txBase = s.txBase ∧
    t.totalLen = s.totalLen ∧ t.sent = s.sent ∧ t.expect = s.expect ∧ t.chunkRem = s.chunkRem ∧ t.wd = s.wd ∧
    t.txOutcome = s.txOutcome ∧ t.txInfo = s.txInfo

/-- Registers 12 to 14, 16 and 17 are the same (owner AL). -/
def AlRegsEq (s t : State) : Prop :=
  t.alState = s.alState ∧ t.alCnt = s.alCnt ∧ t.alHdr = s.alHdr ∧ t.aqOvf = s.aqOvf ∧ t.alLinkErr = s.alLinkErr

/-- Registers 18 to 26 and RXBUF are the same (owner RX). -/
def RxRegsEq (s t : State) : Prop :=
  t.rxState = s.rxState ∧ t.rxCnt = s.rxCnt ∧ t.rxHdr = s.rxHdr ∧ t.rxTag = s.rxTag ∧ t.rxParams = s.rxParams ∧
    t.rxLen = s.rxLen ∧ t.rxGot = s.rxGot ∧ t.rxWd = s.rxWd ∧ t.rxOutcome = s.rxOutcome ∧ t.rxbuf = s.rxbuf

/-- The error inputs and the model's own fields are the same. -/
def InputsEq (s t : State) : Prop :=
  t.errOut = s.errOut ∧ t.errRet = s.errRet ∧ t.errInb = s.errInb ∧ t.cfg = s.cfg ∧ t.result = s.result ∧
    t.epoch = s.epoch ∧ t.agenda = s.agenda

end Sys2Proof.Machine
end

