-- ==== Sys2Proof/Certificates/Slice0/Obligations.lean ====
section
/-! DEFINITION. The statements for the provers, in the order of OBLIGATIONS.json. Where a step's next state is written
out as an update of the state before, everything the update does not name is unchanged: that is the step's frame. -/

open Sys2Proof Sys2Proof.Machine

/-! ### The machine's step -/

/-- A command on the command port, or a header on a link, whose bytes decode to `i` is run as `i` (R96, R84), the
choice taken off the agenda; no other part of the state changes before `i` runs. A command that is no instruction is
refused by name. The model's choice: that a frame is one instruction (log 4), that a command without a code byte is no
instruction and an unlisted code is one whatever follows it (log 14). -/
def Obligations.StepRunsTheDecodedInstruction : Prop :=
  (∀ s bs rest i, s.agenda = .command bs :: rest → decode s.cfg.tag2Kind .command bs = .ok i →
    step s = exec i { s with agenda := rest }) ∧
  (∀ s l h rest i, s.agenda = .frame l h :: rest → decode s.cfg.tag2Kind (.link l) h.bytes = .ok i →
    step s = exec i { s with agenda := rest }) ∧
  (∀ s bs rest e, s.agenda = .command bs :: rest → decode s.cfg.tag2Kind .command bs = .error e →
    step s = .refused (.malformedCommand e))

/-- A unit that is given the turn runs the step its state and inputs select, and waits when they select none (R14,
R99); a tick runs TICK; with an empty agenda AL, then TX, then RX is given the turn (the model's choice, log 2). -/
def Obligations.StepGivesTheTurnToAUnit : Prop :=
  (∀ s u rest i, s.agenda = .turn u :: rest → select u { s with agenda := rest } = some i →
    step s = exec i { s with agenda := rest }) ∧
  (∀ s u rest, s.agenda = .turn u :: rest → select u { s with agenda := rest } = none →
    step s = .next { s with agenda := rest }) ∧
  (∀ (s : State) rest, s.agenda = .tick :: rest → step s = exec .tick { s with agenda := rest }) ∧
  (∀ (s : State) (i : Instr), s.agenda = [] → select .al s = some i → step s = exec i s) ∧
  (∀ (s : State) (i : Instr), s.agenda = [] → select .al s = none → select .tx s = some i → step s = exec i s) ∧
  (∀ (s : State) (i : Instr), s.agenda = [] → select .al s = none → select .tx s = none → select .rx s = some i →
    step s = exec i s) ∧
  (∀ s : State, s.agenda = [] → select .al s = none → select .tx s = none → select .rx s = none → step s = .next s)

/-- The environment's own steps (R54, R38): a peer appends a byte, LINK_OUT and HOST take a head element (an empty
channel stays empty), LINKERR sets an error input. -/
def Obligations.EnvironmentStepsTouchOnlyTheirChannel : Prop :=
  ∀ (s : State) rest,
  (∀ b, s.agenda = .peerByte .ret b :: rest → step s = .next { s with agenda := rest, ret := s.ret ++ [b] }) ∧
  (∀ b, s.agenda = .peerByte .inb b :: rest → step s = .next { s with agenda := rest, inb := s.inb ++ [b] }) ∧
  (s.agenda = .linkOut :: rest → step s = .next { s with agenda := rest, out := s.out.tail }) ∧
  (s.agenda = .hostPop .diag :: rest → step s = .next { s with agenda := rest, diag := s.diag.tail }) ∧
  (s.agenda = .hostPop .log :: rest → step s = .next { s with agenda := rest, log := s.log.tail }) ∧
  (s.agenda = .hostPop .dlv :: rest → step s = .next { s with agenda := rest, dlv := s.dlv.tail }) ∧
  (s.agenda = .hostPop .evt :: rest → step s = .next { s with agenda := rest, evt := s.evt.tail }) ∧
  (s.agenda = .linkErr .out :: rest → step s = .next { s with agenda := rest, errOut := true }) ∧
  (s.agenda = .linkErr .ret :: rest → step s = .next { s with agenda := rest, errRet := true }) ∧
  (s.agenda = .linkErr .inb :: rest → step s = .next { s with agenda := rest, errInb := true })

/-- The reset input asserted in any state answers a next state (R330), and that state and `State.reset` hold the reset
values of R37 and R38. The model's choice: reset is a choice of the agenda that keeps the configuration and the choices
still to come, under a new epoch (log 16); and the memories list nothing, so every byte of theirs, which U3 lets be any
value, reads as the free value of that epoch (logs 7 and 8). -/
def Obligations.ResetLeavesTheListedValues : Prop :=
  (∀ (s0 : State) rest, s0.agenda = .reset :: rest →
    ∃ s, step s0 = .next s ∧ s.cfg = s0.cfg ∧ s.agenda = rest ∧ s.epoch = s0.epoch + 1) ∧
  ∀ s : State, s = State.reset ∨ (∃ s0 rest, s0.agenda = .reset :: rest ∧ step s0 = .next s) →
    (s.txState = .idle ∧ s.txIdx = 0 ∧ s.txTag = 0 ∧ s.txParams = ⟨0, 0, 0, 0⟩ ∧ s.txBase = 0 ∧ s.totalLen = 0 ∧
      s.sent = 0 ∧ s.expect = 0 ∧ s.chunkRem = 0 ∧ s.wd = 0 ∧ s.txOutcome = .none ∧ s.txInfo = .val 0) ∧
    (s.alState = .hdr ∧ s.alCnt = 0 ∧ s.alHdr = ⟨0, 0, 0, 0, 0⟩ ∧ s.aqOvf = false ∧ s.alLinkErr = false) ∧
    (s.rxState = .hdr ∧ s.rxCnt = 0 ∧ s.rxHdr = ⟨0, 0, 0, 0, 0⟩ ∧ s.rxTag = 0 ∧ s.rxParams = ⟨0, 0, 0, 0⟩ ∧
      s.rxLen = 0 ∧ s.rxGot = 0 ∧ s.rxWd = 0 ∧ s.rxOutcome = .none) ∧
    (s.errOut = false ∧ s.errRet = false ∧ s.errInb = false ∧ s.aq = [] ∧ s.out = [] ∧ s.ret = [] ∧ s.inb = [] ∧
      s.diag = [] ∧ s.log = [] ∧ s.dlv = [] ∧ s.evt = []) ∧
    ∀ a, memByte s a = Config.unwrittenMem s.epoch a ∧ rxbufByte s a = Config.unwrittenRxbuf s.epoch a

/-! ### Encodings -/

/-- A few words, written out from R84 and R96, decode to what they stand for: commands of programs P1, P2 and P4 of
spec/95_test_vectors.md (one with other dimensions) and frames of its vectors V2, V4, V5, V6 and V7. -/
def Obligations.WordsOfTheSpecDecode : Prop :=
  decodeCommand [0x05, 0x01, 0x00, 0x00, 0x00, 0x41, 0x00, 0x00, 0x10, 0x00] =
    .ok (.txStart 0x01 ⟨0, 0, 0, 0x41⟩ 0x1000) ∧
  decodeCommand [0x03, 0x00, 0x00, 0x01, 0x00, 0x00, 0x02, 0x00, 0x03, 0x00, 0x00, 0x02, 0x00] =
    .ok (.icPack3 0x100 2 3 0x200) ∧
  decodeCommand [0x04, 0x00, 0x00, 0x01, 0x00, 0x00, 0x02, 0x00, 0x03, 0x00, 0x00, 0x02, 0x00] =
    .ok (.icUnpack3 0x100 2 3 0x200) ∧
  decodeCommand [0x08, 0x00, 0x00, 0x00, 0x10, 0x68] = .ok (.memWrite 0x10 0x68) ∧
  decodeCommand [0x0A] = .ok (.hostInvalid 0x0A) ∧
  decodeFrame .image8Bit .inb ⟨0x04, 0x01, 0x2C, 0x01, 0x90⟩ = .frameImage3Bit .inb 300 400 ∧
  decodeFrame .image8Bit .ret ⟨0xFF, 0xFF, 0xFF, 0xFF, 0xFF⟩ = .frameAck .ret 4294967295 ∧
  decodeFrame .image8Bit .ret ⟨0x00, 0x12, 0x34, 0x56, 0x78⟩ = .frameNak .ret ⟨0x12, 0x34, 0x56, 0x78⟩ ∧
  decodeFrame .image8Bit .inb ⟨0x02, 0x00, 0x02, 0x00, 0x03⟩ = .frameImage8Bit .inb 2 3 ∧
  decodeFrame .rawBytesWithWake .inb ⟨0x02, 0x00, 0x02, 0x00, 0x03⟩ = .frameRawBytesWithWake .inb 131075 ∧
  decodeFrame .image8Bit .inb ⟨0x07, 0, 0, 0, 0⟩ = .frameUnrecognised .inb 0x07 ⟨0, 0, 0, 0⟩

/-- Decoding the encoding of a well-formed instruction gives it back, every operand at every value (R83, R84, R96),
under either meaning of tag 0x02. -/
def Obligations.DecodeInvertsEncode : Prop :=
  ∀ k i p bs, i.wf k = true → encode i = some (p, bs) → decode k p bs = .ok i

/-- Every five bytes on a link are one well-formed frame, which encodes to those bytes (R84). A command that decodes is
well-formed; with a listed code its bytes are exactly its encoding (R96, U12). The model's choice (log 14): no bytes at
all are no command, and an unlisted code decodes to HOST.invalid whatever follows it. -/
def Obligations.EncodeGivesBackTheDecodedBytes : Prop :=
  (∀ k l h, (decodeFrame k l h).wf k = true ∧ encode (decodeFrame k l h) = some (.link l, h.bytes)) ∧
  (∀ k (c : Byte) ops i, decodeCommand (c :: ops) = .ok i → i.wf k = true ∧
    (1 ≤ c.toNat → c.toNat ≤ 9 → encode i = some (.command, c :: ops)) ∧
    (c = 0 ∨ 10 ≤ c.toNat → i = .hostInvalid c ∧ encode i = some (.command, [c]))) ∧
  (∀ i, decodeCommand [] ≠ .ok i) ∧
  (∀ (c : Byte) ops, c = 0 ∨ 10 ≤ c.toNat → decodeCommand (c :: ops) = .ok (.hostInvalid c))

/-! ### Frame Codec -/

/-- R113: FC.ENCODE and FC.DECODE are inverse bijections between the frame values with a tag in TAGS and the headers
whose first byte is, and both fail on exactly the complement. -/
def Obligations.FrameCodecIsABijection : Prop :=
  ∀ tags : List Byte, tags = [0x00, 0x01, 0x02, 0x03, 0x04, 0xFF] →
    (∀ t p, t ∈ tags → ∃ h, fcEncode t p = some h ∧ fcDecode h = some (t, p)) ∧
    (∀ h, h.h0 ∈ tags → ∃ t p, fcDecode h = some (t, p) ∧ fcEncode t p = some h) ∧
    (∀ t p, fcEncode t p = none ↔ t ∉ tags) ∧
    (∀ h, fcDecode h = none ↔ h.h0 ∉ tags)

/-- FC.ENCODE and FC.DECODE as host operations (R111, R112, R264): the five bytes, the pair, or MalformedFrame;
nothing but the returned result changes. -/
def Obligations.FrameCodecOperationsReturn : Prop :=
  ∀ tags : List Byte, tags = [0x00, 0x01, 0x02, 0x03, 0x04, 0xFF] →
    (∀ t p s, exec (.fcEncode t p) s =
      .next { s with result := if t ∈ tags then .header ⟨t, p.p0, p.p1, p.p2, p.p3⟩ else .malformedFrame }) ∧
    (∀ h s, exec (.fcDecode h) s =
      .next { s with result := if h.h0 ∈ tags then .frame h.h0 ⟨h.h1, h.h2, h.h3, h.h4⟩ else .malformedFrame })

/-- FC.COUNT (R114) and FC.DIMS (R115): big-endian and unsigned, with their inverses. -/
def Obligations.ParameterViewsAreBigEndian : Prop :=
  (∀ p s, exec (.fcCount p) s =
    .next { s with result := .count (p.p0.toNat * 2 ^ 24 + p.p1.toNat * 2 ^ 16 + p.p2.toNat * 2 ^ 8 + p.p3.toNat) }) ∧
  (∀ p s, ∃ h w, exec (.fcDims p) s = .next { s with result := .dims h w } ∧
    h.toNat = p.p0.toNat * 256 + p.p1.toNat ∧ w.toNat = p.p2.toNat * 256 + p.p3.toNat) ∧
  (∀ n, fcCount (paramsC n) = n) ∧ (∀ p, paramsC (fcCount p) = p) ∧
  (∀ h w, fcDims (paramsD h w) = (h, w)) ∧ (∀ p, paramsD (fcDims p).1 (fcDims p).2 = p)

/-- FC.PAYLEN (R116) for every recognised tag and both meanings of 0x02, exact and below 2^32; FC.KIND (R117). -/
def Obligations.PayloadLengthAndKindFollowTheTag : Prop :=
  ∀ (s : State) (p : Params), ∃ n h w : Nat,
    n = p.p0.toNat * 2 ^ 24 + p.p1.toNat * 2 ^ 16 + p.p2.toNat * 2 ^ 8 + p.p3.toNat ∧
    h = p.p0.toNat * 256 + p.p1.toNat ∧ w = p.p2.toNat * 256 + p.p3.toNat ∧
    exec (.fcPaylen .rawBytes p) s = .next { s with result := .count n } ∧
    exec (.fcPaylen .stringData p) s = .next { s with result := .count n } ∧
    exec (.fcPaylen .tag2 p) s =
      .next { s with result := .count (if s.cfg.tag2Kind = .image8Bit then h * w else n) } ∧
    exec (.fcPaylen .image3Bit p) s = .next { s with result := .count ((h * w + 1) / 2) } ∧
    exec (.fcPaylen .ack p) s = .next { s with result := .count 0 } ∧
    exec (.fcPaylen .nak p) s = .next { s with result := .count 0 } ∧
    (∀ t, fcPaylen s.cfg.tag2Kind t p < 2 ^ 32) ∧
    exec (.fcKind .rawBytes) s = .next { s with result := .kind .rawBytes } ∧
    exec (.fcKind .tag2) s =
      .next { s with result := .kind (if s.cfg.tag2Kind = .image8Bit then .image8Bit else .rawBytesWithWake) } ∧
    exec (.fcKind .stringData) s = .next { s with result := .kind .stringData } ∧
    exec (.fcKind .image3Bit) s = .next { s with result := .kind .image3Bit } ∧
    exec (.fcKind .ack) s = .next { s with result := .kind .ack } ∧
    exec (.fcKind .nak) s = .next { s with result := .kind .nak }

/-! ### Image Codec -/

/-- IC.QUANT (R132), IC.DEQUANT (R133) and the error of the round trip (R140): at most 19 with the truncating table,
reached only at 91, at most 18 with the nearest table. -/
def Obligations.QuantiseRescaleAndTheirError : Prop :=
  (∀ g s, ∃ l, exec (.icQuant g) s = .next { s with result := .level l } ∧ l.toNat = (7 * g.toNat + 127) / 255 ∧
    l.toNat = (14 * g.toNat + 255) / 510) ∧
  (∀ l s, ∃ b, exec (.icDequant l) s = .next { s with result := .byte b } ∧
    (s.cfg.unpackLut = lutTruncating → b.toNat = l.toNat * 255 / 7) ∧
    (s.cfg.unpackLut = lutNearest → b.toNat = (2 * (l.toNat * 255) + 7) / 14)) ∧
  (∀ g, ((icDequant lutTruncating (icQuant g)).toNat : Int) - g.toNat ≤ 19 ∧
    (g.toNat : Int) - (icDequant lutTruncating (icQuant g)).toNat ≤ 19 ∧
    ((g.toNat : Int) - (icDequant lutTruncating (icQuant g)).toNat = 19 ∨
      ((icDequant lutTruncating (icQuant g)).toNat : Int) - g.toNat = 19 ↔ g = 91) ∧
    ((icDequant lutNearest (icQuant g)).toNat : Int) - g.toNat ≤ 18 ∧
    (g.toNat : Int) - (icDequant lutNearest (icQuant g)).toNat ≤ 18)

/-- IC.PACK3, sequence form (R136, R134): ceil_div(N, 2) bytes; byte j holds the levels of pixels 2j and 2j + 1 in
bits 7:5 and 3:1, the missing last pixel as 0. R139 defines IC.PACK3 only for height · width bytes with u16 dimensions:
that a list of any other length is packed too is the model's choice (log 22). -/
def Obligations.PackPutsTwoLevelsInAByte : Prop :=
  ∀ m s, ∃ b, exec (.icPack3Seq m) s = .next { s with result := .bytes b } ∧ b.length = (m.length + 1) / 2 ∧
    ∀ j, j < b.length → ∃ g, m[2 * j]? = some g ∧
      (b[j]?.map BitVec.toNat = some ((icQuant g).toNat * 32 +
        match m[2 * j + 1]? with
        | some g' => (icQuant g').toNat * 2
        | none => 0))

/-- IC.UNPACK3, sequence form (R137): height · width pixels; pixel i is the rescaled level in bits 7:5 (i even) or 3:1
(i odd) of byte i div 2, for every bitmap byte there is. For a bitmap of the wrong length (U4) it is the model's choice
(log 9) that the function still returns height · width pixels and does not read surplus bytes; nothing is claimed for
the pixels whose byte is missing. -/
def Obligations.UnpackRescalesEachLane : Prop :=
  ∀ b width height s, ∃ m, exec (.icUnpack3Seq b width height) s = .next { s with result := .bytes m } ∧
    m.length = height.toNat * width.toNat ∧
    ∀ i v, i < m.length → b[i / 2]? = some v →
      m[i]? = some (icDequant s.cfg.unpackLut
        (BitVec.ofNat 3 (if i % 2 = 0 then v.toNat / 32 else v.toNat % 16 / 2)))

/-- R141(b): unpacking a packed matrix gives each pixel its own quantised value; pixels do not interact. -/
def Obligations.UnpackOfPackIsPixelwise : Prop :=
  ∀ (c : Config) m (width height : U16), m.length = height.toNat * width.toNat →
    icUnpack3Seq c.unpackLut (icPack3Seq m) width height = m.map fun g => icDequant c.unpackLut (icQuant g)

/-- R141(a): packing an unpacked bitmap gives the bitmap with bits 4 and 0 of every byte cleared and, if N is odd, the
last low nibble cleared; with either sanctioned table. -/
def Obligations.PackOfUnpackClearsUnusedBits : Prop :=
  ∀ (c : Config) b (width height : U16), b.length = ceilDiv (height.toNat * width.toNat) 2 →
    icPack3Seq (icUnpack3Seq c.unpackLut b width height) =
      (List.range b.length).map fun j =>
        b.getD j 0 &&& (if 2 * j + 1 < height.toNat * width.toNat then 0xEE else 0xE0)

/-- IC.PACK3 over MEM (R262): rejected, with nothing changed, when the matrix or the bitmap passes the end of MEM;
else the packed bytes of the matrix as it stood before are at `dst`, and every other byte is as before. -/
def Obligations.HostPackWritesTheBitmap : Prop :=
  ∀ (src : U32) (height width : U16) (dst : U32) s, ∃ n l : Nat,
    n = height.toNat * width.toNat ∧ l = (n + 1) / 2 ∧
    ((s.cfg.memBytes < src.toNat + n ∨ s.cfg.memBytes < dst.toNat + l) →
      exec (.icPack3 src height width dst) s = .next { s with result := .status .cmdRejected }) ∧
    (src.toNat + n ≤ s.cfg.memBytes → dst.toNat + l ≤ s.cfg.memBytes →
      ∃ mem', exec (.icPack3 src height width dst) s =
          .next { s with mem := mem', result := .status .accepted } ∧
        (∀ j, j < l → some (memByte { s with mem := mem' } (dst.toNat + j)) = (icPack3Seq (memSeq s src.toNat n))[j]?) ∧
        (∀ a, (a < dst.toNat ∨ dst.toNat + l ≤ a) → memByte { s with mem := mem' } a = memByte s a))

/-- IC.UNPACK3 over MEM (R263), in the same form. -/
def Obligations.HostUnpackWritesTheMatrix : Prop :=
  ∀ (src : U32) (width height : U16) (dst : U32) s, ∃ n l : Nat,
    n = height.toNat * width.toNat ∧ l = (n + 1) / 2 ∧
    ((s.cfg.memBytes < src.toNat + l ∨ s.cfg.memBytes < dst.toNat + n) →
      exec (.icUnpack3 src width height dst) s = .next { s with result := .status .cmdRejected }) ∧
    (src.toNat + l ≤ s.cfg.memBytes → dst.toNat + n ≤ s.cfg.memBytes →
      ∃ mem', exec (.icUnpack3 src width height dst) s =
          .next { s with mem := mem', result := .status .accepted } ∧
        (∀ j, j < n → some (memByte { s with mem := mem' } (dst.toNat + j)) =
          (icUnpack3Seq s.cfg.unpackLut (memSeq s src.toNat l) width height)[j]?) ∧
        (∀ a, (a < dst.toNat ∨ dst.toNat + n ≤ a) → memByte { s with mem := mem' } a = memByte s a))

/-! ### AckQueue -/

/-- AQ.ENQ (R162): appended where there is room, else dropped with `aq_ovf` and AQ_OVF; AQ.DEQ (R164): the head of a
queue that is not empty; AQ.CLEAR (R165): empty, `aq_ovf` and everything else untouched. -/
def Obligations.QueueOperationsActOnTheQueue : Prop :=
  (∀ (v : Entry) (s : State), (∀ d, s.cfg.ackqDepth = some d → s.aq.length < d) →
    exec (.aqEnq v) s = .next { s with aq := s.aq ++ [v], result := .unit }) ∧
  (∀ (v : Entry) (s : State) (d : Nat), s.cfg.ackqDepth = some d → d ≤ s.aq.length →
    exec (.aqEnq v) s = .next { s with aqOvf := true, evt := s.evt ++ [.aqOvf v], result := .unit }) ∧
  (∀ (s : State) v rest, s.aq = v :: rest → exec .aqDeq s = .next { s with aq := rest, result := .entry v }) ∧
  (∀ s : State, exec .aqClear s = .next { s with aq := [], result := .unit })

/-- R161: entries leave in the order they were appended, none skipped, duplicated or merged: after enqueuing `vs` the
queue is what it was followed by as many of `vs` as fit (all of them in an unbounded queue); and the AQ.DEQ that comes
after n others returns entry n, leaving the entries behind it. -/
def Obligations.QueueKeepsTheOrderOfEntries : Prop :=
  (∀ (vs : List Entry) (s : State), QueueInv s →
    (vs.foldl (fun t v => aqEnq v t) s).aq =
      match s.cfg.ackqDepth with
      | none => s.aq ++ vs
      | some d => (s.aq ++ vs).take d) ∧
  (∀ (s : State) (n : Nat) v, s.aq[n]? = some v →
    exec .aqDeq (aqDrop^[n] s) = .next (setResult (.entry v) (aqDrop^[n + 1] s)) ∧
      (aqDrop^[n + 1] s).aq = s.aq.drop (n + 1))

/-! ### Host operations -/

/-- MEM.WRITE (R266) and MEM.READ (R267): an address past MEM is rejected; a write changes that byte and no other; a
read returns the byte and changes nothing. -/
def Obligations.MemoryOperationsReadAndWriteOneByte : Prop :=
  (∀ (a : U32) b s, s.cfg.memBytes ≤ a.toNat →
    exec (.memWrite a b) s = .next { s with result := .status .cmdRejected } ∧
    exec (.memRead a) s = .next { s with result := .status .cmdRejected }) ∧
  (∀ (a : U32) b s, a.toNat < s.cfg.memBytes →
    ∃ mem', exec (.memWrite a b) s = .next { s with mem := mem', result := .status .accepted } ∧
      memByte { s with mem := mem' } a.toNat = b ∧
      ∀ x, x ≠ a.toNat → memByte { s with mem := mem' } x = memByte s x) ∧
  (∀ (a : U32) s, a.toNat < s.cfg.memBytes →
    exec (.memRead a) s = .next { s with result := .byte (memByte s a.toNat) })

/-- REG.READ (R268): the thirty registers by number, the state registers and outcomes by their codes of R24, R25, R26 and
R290; any other number rejected; no side effect. -/
def Obligations.RegisterReadReturnsTheRegister : Prop :=
  ∀ (r : Byte) s, exec (.regRead r) s =
    .next { s with
      result := match ([
          .num (match s.txState with | .idle => 0 | .hsSend => 1 | .hsWait => 2 | .chunkSend => 3 | .chunkWait => 4),
          .num s.txIdx.toNat, .num s.txTag.toNat,
          .bytes [s.txParams.p0, s.txParams.p1, s.txParams.p2, s.txParams.p3], .num s.txBase.toNat,
          .num s.totalLen.toNat, .num s.sent.toNat, .num s.expect.toNat, .num s.chunkRem.toNat, .num s.wd.toNat,
          .num (match s.txOutcome with
            | .none => 0 | .success => 1 | .handshakeTimeout => 2 | .peerNak => 3 | .protocolMismatch => 4
            | .malformedFrame => 5 | .linkIoFailure => 6 | .chunkAckTimeout => 7 | .rxTimeout => 8 | .cmdRejected => 9),
          .num (match s.txInfo with | .nak => -1 | .val v => v.toNat),
          .num (match s.alState with | .hdr => 0 | .diag => 1 | .error => 2),
          .num s.alCnt.toNat, .bytes [s.alHdr.h0, s.alHdr.h1, s.alHdr.h2, s.alHdr.h3, s.alHdr.h4], .num s.aq.length,
          .num (if s.aqOvf then 1 else 0), .num (if s.alLinkErr then 1 else 0),
          .num (match s.rxState with | .hdr => 0 | .payload => 1 | .error => 2),
          .num s.rxCnt.toNat, .bytes [s.rxHdr.h0, s.rxHdr.h1, s.rxHdr.h2, s.rxHdr.h3, s.rxHdr.h4],
          .num s.rxTag.toNat, .bytes [s.rxParams.p0, s.rxParams.p1, s.rxParams.p2, s.rxParams.p3],
          .num s.rxLen.toNat, .num s.rxGot.toNat, .num s.rxWd.toNat,
          .num (match s.rxOutcome with
            | .none => 0 | .success => 1 | .handshakeTimeout => 2 | .peerNak => 3 | .protocolMismatch => 4
            | .malformedFrame => 5 | .linkIoFailure => 6 | .chunkAckTimeout => 7 | .rxTimeout => 8 | .cmdRejected => 9),
          .num (if s.errOut then 1 else 0), .num (if s.errRet then 1 else 0),
          .num (if s.errInb then 1 else 0)] : List RegValue)[r.toNat]? with
        | some v => .register v
        | none => .status .cmdRejected }

/-- HOST.invalid returns CmdRejected and changes nothing, and every command whose code is 0x00 or 0x0A to 0xFF is one
(R97, R269): whatever bytes follow such a code, which is the model's choice (log 14). A host operation that returns
CmdRejected has changed nothing (R261); and the host operations other than TX.START and RX.RESTART change nothing but
MEM and the returned result (R306). -/
def Obligations.HostOperationsChangeOnlyWhatTheyMay : Prop :=
  (∀ c s, exec (.hostInvalid c) s = .next { s with result := .status .cmdRejected }) ∧
  (∀ (s : State) (c : Byte) bs rest, s.agenda = .command (c :: bs) :: rest → (c = 0 ∨ 0x0A ≤ c.toNat) →
    step s = .next { s with agenda := rest, result := .status .cmdRejected }) ∧
  (∀ i bs s t, i.command = some bs → exec i s = .next t → t.result = .status .cmdRejected →
    t = { s with result := .status .cmdRejected }) ∧
  (∀ i bs s t, i.command = some bs → (∀ a b c, i ≠ .txStart a b c) → i ≠ .rxRestart → exec i s = .next t →
    t = { s with mem := t.mem, result := t.result })

/-! ### TX -/

/-- TX.START of a payload kind that fits (R191): the queue is cleared, every session register loaded, and the
handshake begins. -/
def Obligations.StartLoadsTheSession : Prop :=
  ∀ (tag : Byte) params (base : U32) s t, s.txState = .idle → Tag.ofByte tag = some t → t ≠ .ack → t ≠ .nak →
    base.toNat + fcPaylen s.cfg.tag2Kind t params ≤ s.cfg.memBytes →
    exec (.txStart tag params base) s =
      .next { s with
        aq := [], txTag := tag, txParams := params, txBase := base
        totalLen := BitVec.ofNat 32 (fcPaylen s.cfg.tag2Kind t params)
        sent := 0, expect := 0, txIdx := 0, chunkRem := 0, wd := 0, txOutcome := .none, txInfo := .val 0
        txState := .hsSend, result := .status .accepted }

/-- TX.START is rejected, with nothing changed, while an attempt runs or when the payload would pass the end of MEM
(R192); a tag that is no payload kind clears the queue and ends the attempt at once with MalformedFrame (R193). -/
def Obligations.StartIsRejectedOrMalformed : Prop :=
  (∀ tag params base s, s.txState ≠ .idle →
    exec (.txStart tag params base) s = .next { s with result := .status .cmdRejected }) ∧
  (∀ (tag : Byte) params (base : U32) s t, s.txState = .idle → Tag.ofByte tag = some t → t ≠ .ack → t ≠ .nak →
    s.cfg.memBytes < base.toNat + fcPaylen s.cfg.tag2Kind t params →
    exec (.txStart tag params base) s = .next { s with result := .status .cmdRejected }) ∧
  (∀ (tag : Byte) params base s, s.txState = .idle → tag ∉ ([0x01, 0x02, 0x03, 0x04] : List Byte) →
    exec (.txStart tag params base) s =
      .next { s with
        aq := [], txTag := tag, txParams := params, txBase := base, totalLen := 0
        sent := 0, expect := 0, txIdx := 0, chunkRem := 0, wd := 0, txOutcome := .malformedFrame, txInfo := .val 0
        evt := s.evt ++ [.txDone .malformedFrame (.val 0) 0 0], result := .status .accepted })

/-- TX.HS_BYTE (R195): byte `tx_idx` of the header is pushed; the fifth arms the watchdog and begins the wait. -/
def Obligations.HandshakeByteIsPushed : Prop :=
  ∀ (s : State) (t : Tag) b, s.txState = .hsSend → s.errOut = false → Tag.ofByte s.txTag = some t →
    [s.txTag, s.txParams.p0, s.txParams.p1, s.txParams.p2, s.txParams.p3][s.txIdx.toNat]? = some b →
    (s.txIdx ≠ 4 → exec .txHsByte s = .next { s with out := s.out ++ [b], txIdx := s.txIdx + 1 }) ∧
    (s.txIdx = 4 → exec .txHsByte s =
      .next { s with
        out := s.out ++ [b], txIdx := 5, txState := .hsWait
        wd := BitVec.ofNat 32 s.cfg.handshakeTimeoutTicks })

/-- TX.HS_ACK (R197) and TX.CHUNK_ACK (R204): the matching head is taken; the attempt ends in Success or goes on with
the next chunk. -/
def Obligations.MatchingAckIsAccepted : Prop :=
  (∀ (s : State) rest, s.txState = .hsWait → s.errOut = false → s.aq = .val s.totalLen :: rest →
    (s.totalLen = 0 → exec .txHsAck s =
      .next { s with
        aq := rest, txOutcome := .success, txState := .idle
        evt := s.evt ++ [.txDone .success s.txInfo s.sent s.expect] }) ∧
    (s.totalLen ≠ 0 → exec .txHsAck s =
      .next { s with
        aq := rest, txState := .chunkSend
        chunkRem := BitVec.ofNat 6 (min (s.totalLen.toNat - s.sent.toNat) s.cfg.chunkSize) })) ∧
  (∀ (s : State) rest, s.txState = .chunkWait → s.errOut = false → s.aq = .val s.expect :: rest →
    (s.sent = s.totalLen → exec .txChunkAck s =
      .next { s with
        aq := rest, expect := s.expect + 1, txOutcome := .success, txState := .idle
        evt := s.evt ++ [.txDone .success s.txInfo s.sent (s.expect + 1)] }) ∧
    (s.sent ≠ s.totalLen → exec .txChunkAck s =
      .next { s with
        aq := rest, expect := s.expect + 1, txState := .chunkSend
        chunkRem := BitVec.ofNat 6 (min (s.totalLen.toNat - s.sent.toNat) s.cfg.chunkSize) }))

/-- TX.HS_NAK and TX.CHUNK_NAK (R198, R205) end the attempt with PeerNak; TX.HS_MISMATCH and TX.CHUNK_MISMATCH (R199,
R206) keep the wrong value and end it with ProtocolMismatch. Only the head is taken. -/
def Obligations.NakOrWrongAckEndsTheAttempt : Prop :=
  (∀ (s : State) rest, s.txState = .hsWait → s.errOut = false → s.aq = .nak :: rest → exec .txHsNak s =
    .next { s with
      aq := rest, txOutcome := .peerNak, txState := .idle
      evt := s.evt ++ [.txDone .peerNak s.txInfo s.sent s.expect] }) ∧
  (∀ (s : State) rest, s.txState = .chunkWait → s.errOut = false → s.aq = .nak :: rest → exec .txChunkNak s =
    .next { s with
      aq := rest, txOutcome := .peerNak, txState := .idle
      evt := s.evt ++ [.txDone .peerNak s.txInfo s.sent s.expect] }) ∧
  (∀ (s : State) v rest, s.txState = .hsWait → s.errOut = false → s.aq = .val v :: rest → v ≠ s.totalLen →
    exec .txHsMismatch s =
    .next { s with
      aq := rest, txInfo := .val v, txOutcome := .protocolMismatch, txState := .idle
      evt := s.evt ++ [.txDone .protocolMismatch (.val v) s.sent s.expect] }) ∧
  (∀ (s : State) v rest, s.txState = .chunkWait → s.errOut = false → s.aq = .val v :: rest → v ≠ s.expect →
    exec .txChunkMismatch s =
    .next { s with
      aq := rest, txInfo := .val v, txOutcome := .protocolMismatch, txState := .idle
      evt := s.evt ++ [.txDone .protocolMismatch (.val v) s.sent s.expect] })

/-- TX.HS_TIMEOUT (R200) and TX.CHUNK_TIMEOUT (R207): an empty queue and an expired watchdog end the attempt; and
TX.LINK_ERR (R209) ends it in any running state. -/
def Obligations.TimeoutOrLinkErrorEndsTheAttempt : Prop :=
  (∀ s : State, s.txState = .hsWait → s.errOut = false → s.aq = [] → s.wd = 0 → exec .txHsTimeout s =
    .next { s with
      txOutcome := .handshakeTimeout, txState := .idle
      evt := s.evt ++ [.txDone .handshakeTimeout s.txInfo s.sent s.expect] }) ∧
  (∀ s : State, s.txState = .chunkWait → s.errOut = false → s.aq = [] → s.wd = 0 → exec .txChunkTimeout s =
    .next { s with
      txOutcome := .chunkAckTimeout, txState := .idle
      evt := s.evt ++ [.txDone .chunkAckTimeout s.txInfo s.sent s.expect] }) ∧
  (∀ s : State, s.txState ≠ .idle → s.errOut = true → exec .txLinkErr s =
    .next { s with
      txOutcome := .linkIoFailure, txState := .idle
      evt := s.evt ++ [.txDone .linkIoFailure s.txInfo s.sent s.expect] })

/-- TX.CHUNK_BYTE (R202): the payload byte at `tx_base + sent` is pushed; the chunk's last byte arms the watchdog. -/
def Obligations.PayloadByteIsPushed : Prop :=
  ∀ s : State, s.txState = .chunkSend → s.errOut = false → s.txBase.toNat + s.sent.toNat < s.cfg.memBytes →
    (s.chunkRem ≠ 1 → exec .txChunkByte s =
      .next { s with
        out := s.out ++ [memByte s (s.txBase.toNat + s.sent.toNat)], sent := s.sent + 1
        chunkRem := s.chunkRem - 1 }) ∧
    (s.chunkRem = 1 → exec .txChunkByte s =
      .next { s with
        out := s.out ++ [memByte s (s.txBase.toNat + s.sent.toNat)], sent := s.sent + 1, chunkRem := 0
        txState := .chunkWait, wd := BitVec.ofNat 32 s.cfg.chunkAckTimeoutTicks })

/-- The invariants of a running attempt (R212) are kept by every step. -/
def Obligations.TransmitterInvariantIsKept : Prop :=
  ∀ s t : State, TxInv s → step s = .next t → TxInv t

/-- The header (R194, R195): five turns of TX from the start of the handshake push the five header bytes in order and
leave TX waiting with the watchdog armed. -/
def Obligations.FiveTurnsPushTheHeader : Prop :=
  ∀ s : State, TxInv s → s.txState = .hsSend → s.txIdx = 0 → s.errOut = false →
    Host.Core.run Sys2Proof.core 5 { s with agenda := List.replicate 5 (.turn .tx) } =
      .next { s with
        out := s.out ++ [s.txTag, s.txParams.p0, s.txParams.p1, s.txParams.p2, s.txParams.p3]
        txIdx := 5, txState := .hsWait, wd := BitVec.ofNat 32 s.cfg.handshakeTimeoutTicks, agenda := [] }

/-- A chunk (R202, R63): as many turns as bytes remain push those bytes of MEM in order and leave TX waiting. -/
def Obligations.ChunkIsPushedInOrder : Prop :=
  ∀ (s : State) (n : Nat), s.txState = .chunkSend → s.errOut = false → s.chunkRem.toNat = n → 1 ≤ n →
    s.txBase.toNat + s.sent.toNat + n ≤ s.cfg.memBytes →
    Host.Core.run Sys2Proof.core n { s with agenda := List.replicate n (.turn .tx) } =
      .next { s with
        out := s.out ++ memSeq s (s.txBase.toNat + s.sent.toNat) n, sent := s.sent + BitVec.ofNat 32 n
        chunkRem := 0, txState := .chunkWait, wd := BitVec.ofNat 32 s.cfg.chunkAckTimeoutTicks, agenda := [] }

/-- Chunking completeness (R213, R210): a transmitter whose queue holds the handshake acknowledgement and then 0, 1,
..., chunks - 1 takes exactly those entries, pushes the N payload bytes in order in ceil_div(N, C) chunks and reports
Success. -/
def Obligations.AcknowledgedTransferCompletes : Prop :=
  ∀ (s : State) rest, TxInv s → s.txState = .hsWait → s.errOut = false →
    s.aq = .val s.totalLen ::
      ((List.range (ceilDiv s.totalLen.toNat s.cfg.chunkSize)).map fun k => Entry.val (BitVec.ofNat 32 k)) ++ rest →
    ∃ u, Host.Core.run Sys2Proof.core (1 + s.totalLen.toNat + ceilDiv s.totalLen.toNat s.cfg.chunkSize)
        { s with
          agenda := List.replicate (1 + s.totalLen.toNat + ceilDiv s.totalLen.toNat s.cfg.chunkSize) (.turn .tx) } =
        .next u ∧
      u.txState = .idle ∧ u.txOutcome = .success ∧ u.sent = s.totalLen ∧
      u.expect.toNat = ceilDiv s.totalLen.toNat s.cfg.chunkSize ∧ u.aq = rest ∧
      u.out = s.out ++ memSeq s s.txBase.toNat s.totalLen.toNat ∧
      u.evt = s.evt ++ [.txDone .success (.val 0) s.totalLen u.expect] ∧ u.mem = s.mem

/-- The whole next-state relation of TX (R217): a step other than reset changes `tx_state` only as the table says: out of
TX_IDLE by an accepted TX.START with a payload kind, out of every other state under its row's condition. -/
def Obligations.TransmitterFollowsItsTable : Prop :=
  ∀ s t : State, step s = .next t → t.epoch = s.epoch → TxMove s t

/-- The watchdog (R200, R207, R311): with an empty queue and a healthy link TX waits at every tick before the one that
takes `wd` to 0, and has its timeout step from that one on. -/
def Obligations.WatchdogExpiresAfterItsTicks : Prop :=
  ∀ s n u, txWaiting s = true → s.errOut = false → s.aq = [] →
    Host.Core.run Sys2Proof.core n { s with agenda := List.replicate n .tick } = .next u →
    u.txState = s.txState ∧ u.aq = [] ∧
      (n < s.wd.toNat → select .tx u = none) ∧
      (s.wd.toNat ≤ n → u.wd = 0 ∧
        select .tx u = some (if s.txState = .hsWait then .txHsTimeout else .txChunkTimeout))

/-! ### Selection -/

/-- R99: the step a unit takes is the enabled step of that unit, and there is at most one. -/
def Obligations.SelectionIsTheOneEnabledStep : Prop :=
  (∀ (u : UnitName) (s : State) (i : Instr), select u s = some i ↔ unitOf i = some u ∧ enabled i s = true) ∧
  (∀ (s : State) (i j : Instr), unitOf i = unitOf j → unitOf i ≠ none → enabled i s = true → enabled j s = true → i = j)

/-- R304: a failed link leaves its unit no step but LINK_ERR; a queue that is not empty leaves TX no timeout; a byte
on INB leaves RX no timeout. And a unit's step that is not enabled, or AQ.DEQ on an empty queue, waits (R14): that it
answers the same state is the model's reading (log 11). -/
def Obligations.PrioritiesAndWaiting : Prop :=
  (∀ (s : State) (i : Instr), s.errOut = true → unitOf i = some .tx → enabled i s = true → i = .txLinkErr) ∧
  (∀ (s : State) (i : Instr), s.errRet = true → unitOf i = some .al → enabled i s = true → i = .alLinkErr) ∧
  (∀ (s : State) (i : Instr), s.errInb = true → unitOf i = some .rx → enabled i s = true → i = .rxLinkErr) ∧
  (∀ s : State, s.aq ≠ [] → enabled .txHsTimeout s = false ∧ enabled .txChunkTimeout s = false) ∧
  (∀ s : State, s.inb ≠ [] → enabled .rxTimeout s = false) ∧
  (∀ (s : State) (i : Instr) (u : UnitName), unitOf i = some u → enabled i s = false → exec i s = .next s) ∧
  (∀ s : State, s.aq = [] → exec .aqDeq s = .next s)

/-! ### AL -/

/-- AL.HDR_BYTE (R170), AL.DIAG_BYTE (R178) and AL.LINK_ERR (R181). -/
def Obligations.ListenerBytesAndLinkError : Prop :=
  (∀ (s : State) b rest, s.alState = .hdr → s.alCnt.toNat < 4 → s.errRet = false → s.ret = b :: rest →
    exec .alHdrByte s =
      .next { s with
        ret := rest, alCnt := s.alCnt + 1
        alHdr :=
          ⟨if s.alCnt = 0 then b else s.alHdr.h0, if s.alCnt = 1 then b else s.alHdr.h1,
            if s.alCnt = 2 then b else s.alHdr.h2, if s.alCnt = 3 then b else s.alHdr.h3, s.alHdr.h4⟩ }) ∧
  (∀ (s : State) b rest, s.alState = .diag → s.errRet = false → s.ret = b :: rest → b ≠ s.cfg.diagEol →
    exec .alDiagByte s = .next { s with ret := rest, diag := s.diag ++ [(b, false)] }) ∧
  (∀ (s : State) b rest, s.alState = .diag → s.errRet = false → s.ret = b :: rest → b = s.cfg.diagEol →
    exec .alDiagByte s = .next { s with ret := rest, diag := s.diag ++ [(b, true)], alState := .hdr }) ∧
  (∀ s : State, s.alState ≠ .error → s.errRet = true →
    exec .alLinkErr s = .next { s with alState := .error, alLinkErr := true, evt := s.evt ++ [.alLinkErr] })

/-- The step that pops the fifth byte (R171 to R177), by the tag byte: Ack and Nak enqueue, StringData opens a
diagnostic line, every other header is logged and dropped. -/
def Obligations.CompletedHeaderIsActedOn : Prop :=
  ∀ (s : State) b rest, s.alState = .hdr → s.alCnt = 4 → s.errRet = false → s.ret = b :: rest →
    ∃ s1 : State, s1 = { s with ret := rest, alCnt := 0, alHdr := { s.alHdr with h4 := b } } ∧
    (s.alHdr.h0 = 0xFF → exec .alFrameAck s =
      .next (aqEnq (.val (be32 s.alHdr.h1 s.alHdr.h2 s.alHdr.h3 b)) s1)) ∧
    (s.alHdr.h0 = 0x00 → exec .alFrameNak s = .next (aqEnq .nak s1)) ∧
    (s.alHdr.h0 = 0x03 → exec .alFrameStr s = .next { s1 with alState := .diag }) ∧
    (s.alHdr.h0 ∈ ([0x01, 0x02, 0x04] : List Byte) → exec .alFrameDropPayloadKind s =
      .next { s1 with log := s.log ++ [⟨s.alHdr.h0, ⟨s.alHdr.h1, s.alHdr.h2, s.alHdr.h3, b⟩⟩] }) ∧
    (s.alHdr.h0 ∉ ([0x00, 0x01, 0x02, 0x03, 0x04, 0xFF] : List Byte) → exec .alFrameDropUnknown s =
      .next { s1 with log := s.log ++ [⟨s.alHdr.h0, ⟨s.alHdr.h1, s.alHdr.h2, s.alHdr.h3, b⟩⟩] })

/-- Every frame on the return link (R177): FRAME.RawBytes, FRAME.Image8Bit, FRAME.RawBytesWithWake, FRAME.StringData,
FRAME.Image3Bit, FRAME.Ack, FRAME.Nak, FRAME.unrecognised, read by a listener at a frame boundary with an empty, healthy
link. That such a row appends its five bytes and gives AL five turns is the model's choice (log 4); a frame met in any
other state is read byte by byte (R170 to R178). -/
def Obligations.FrameOnTheReturnLink : Prop :=
  ∀ (i : Instr) (h : Header) (s : State), i.header = some (.ret, h) → s.alState = .hdr → s.alCnt = 0 → s.ret = [] →
    s.errRet = false →
    (h.h0 = 0xFF → exec i s = .next (aqEnq (.val (be32 h.h1 h.h2 h.h3 h.h4)) { s with alHdr := h })) ∧
    (h.h0 = 0x00 → exec i s = .next (aqEnq .nak { s with alHdr := h })) ∧
    (h.h0 = 0x03 → exec i s = .next { s with alHdr := h, alState := .diag }) ∧
    (h.h0 ≠ 0xFF → h.h0 ≠ 0x00 → h.h0 ≠ 0x03 → exec i s =
      .next { s with alHdr := h, log := s.log ++ [⟨h.h0, ⟨h.h1, h.h2, h.h3, h.h4⟩⟩] })

/-! ### RX -/

/-- RX.HDR_BYTE (R231), RX.TIMEOUT (R250) and RX.LINK_ERR (R252). -/
def Obligations.ReceiverHeaderByteAndStops : Prop :=
  (∀ (s : State) b rest, s.rxState = .hdr → s.rxCnt.toNat < 4 → s.errInb = false → s.inb = b :: rest →
    exec .rxHdrByte s =
      .next { s with
        inb := rest, rxCnt := s.rxCnt + 1
        rxHdr :=
          ⟨if s.rxCnt = 0 then b else s.rxHdr.h0, if s.rxCnt = 1 then b else s.rxHdr.h1,
            if s.rxCnt = 2 then b else s.rxHdr.h2, if s.rxCnt = 3 then b else s.rxHdr.h3, s.rxHdr.h4⟩
        rxWd := if 0 < s.cfg.rxTimeoutTicks then BitVec.ofNat 32 s.cfg.rxTimeoutTicks else s.rxWd }) ∧
  (∀ s : State, 0 < s.cfg.rxTimeoutTicks → (s.rxState = .hdr ∧ s.rxCnt ≠ 0 ∨ s.rxState = .payload) → s.inb = [] →
    s.rxWd = 0 → s.errInb = false →
    exec .rxTimeout s =
      .next { s with
        rxOutcome := .rxTimeout, rxState := .error
        evt := s.evt ++ [.rxErr .rxTimeout s.rxTag s.rxParams s.rxGot] }) ∧
  (∀ s : State, s.rxState ≠ .error → s.errInb = true →
    exec .rxLinkErr s =
      .next { s with
        rxOutcome := .linkIoFailure, rxState := .error
        evt := s.evt ++ [.rxErr .linkIoFailure s.rxTag s.rxParams s.rxGot] })

/-- RX.HDR_DONE (R232 to R239): the fifth byte; an unknown tag or a payload past MAX_PAYLOAD stops RX, an empty
payload is delivered at once, any other is awaited. That RX_ERR carries the tag, the parameters and `rx_got` as this
step leaves them is the model's reading (log 19). -/
def Obligations.ReceiverDispatchesOnTheHeader : Prop :=
  ∀ (s : State) b rest, s.rxState = .hdr → s.rxCnt = 4 → s.errInb = false → s.inb = b :: rest →
    ∃ s1 : State, s1 = { s with
        inb := rest, rxCnt := 0, rxHdr := { s.rxHdr with h4 := b }, rxTag := s.rxHdr.h0
        rxParams := ⟨s.rxHdr.h1, s.rxHdr.h2, s.rxHdr.h3, b⟩ } ∧
    (s.rxHdr.h0 ∉ ([0x00, 0x01, 0x02, 0x03, 0x04, 0xFF] : List Byte) → exec .rxHdrDone s =
      .next { s1 with
        rxOutcome := .malformedFrame, rxState := .error
        evt := s.evt ++ [.rxErr .malformedFrame s1.rxTag s1.rxParams s.rxGot] }) ∧
    (∀ t len, Tag.ofByte s.rxHdr.h0 = some t → len = fcPaylen s.cfg.tag2Kind t s1.rxParams →
      (s.cfg.maxPayload < len → exec .rxHdrDone s =
        .next { s1 with
          rxLen := BitVec.ofNat 32 len, rxGot := 0, rxOutcome := .malformedFrame, rxState := .error
          evt := s.evt ++ [.rxErr .malformedFrame s1.rxTag s1.rxParams 0] }) ∧
      (len = 0 → exec .rxHdrDone s =
        .next { s1 with rxLen := 0, rxGot := 0, dlv := s.dlv ++ [⟨s1.rxTag, s1.rxParams, []⟩] }) ∧
      (0 < len → len ≤ s.cfg.maxPayload → exec .rxHdrDone s =
        .next { s1 with
          rxLen := BitVec.ofNat 32 len, rxGot := 0, rxState := .payload
          rxWd := if 0 < s.cfg.rxTimeoutTicks then BitVec.ofNat 32 s.cfg.rxTimeoutTicks else s.rxWd }))

/-- RX.PAY_BYTE (R240, R245): the byte is stored at index `rx_got` and no other byte of RXBUF changes; the last byte
delivers the payload, unpacked for tag 0x04, and ends the frame. The deadline is reloaded at a byte that leaves the
frame incomplete (D6, R28, R249, R310); R240's pseudocode alone would reload it at the last byte too, and that it does
not is the model's reading (log 10). -/
def Obligations.PayloadByteIsStoredAndTheLastDelivers : Prop :=
  ∀ (s : State) b rest, s.rxState = .payload → s.errInb = false → s.inb = b :: rest → s.rxGot.toNat < s.cfg.maxPayload →
    ∃ (s1 : State) (rxbuf' : Memory), s1 = { s with inb := rest, rxGot := s.rxGot + 1, rxbuf := rxbuf' } ∧
      rxbufByte s1 s.rxGot.toNat = b ∧ (∀ i, i ≠ s.rxGot.toNat → rxbufByte s1 i = rxbufByte s i) ∧
      (s.rxGot + 1 ≠ s.rxLen → exec .rxPayByte s =
        .next { s1 with
          rxWd := if 0 < s.cfg.rxTimeoutTicks then BitVec.ofNat 32 s.cfg.rxTimeoutTicks else s.rxWd }) ∧
      (s.rxGot + 1 = s.rxLen → exec .rxPayByte s =
        .next { s1 with
          rxState := .hdr
          dlv := s.dlv ++ [⟨s.rxTag, s.rxParams,
            if s.rxTag = 0x04 then
              icUnpack3Seq s.cfg.unpackLut (rxbufSeq s1 s.rxLen.toNat) (be16 s.rxParams.p2 s.rxParams.p3)
                (be16 s.rxParams.p0 s.rxParams.p1)
            else rxbufSeq s1 s.rxLen.toNat⟩] })

/-- RX.RESTART (R251): only a stopped receiver restarts, at a header boundary, INB and err_INB untouched. -/
def Obligations.RestartResumesAStoppedReceiver : Prop :=
  (∀ s : State, s.rxState ≠ .error → exec .rxRestart s = .next { s with result := .status .cmdRejected }) ∧
  (∀ s : State, s.rxState = .error → exec .rxRestart s =
    .next { s with
      rxState := .hdr, rxCnt := 0, rxGot := 0, rxLen := 0, rxOutcome := .none, result := .status .accepted })

/-- Every frame on the inbound link (R237): FRAME.RawBytes, FRAME.Image8Bit, FRAME.RawBytesWithWake, FRAME.StringData,
FRAME.Image3Bit, FRAME.Ack, FRAME.Nak, FRAME.unrecognised, read by a receiver at a frame boundary with an empty, healthy
link. That such a row appends its five bytes and gives RX five turns is the model's choice (log 4), what RX_ERR carries
its reading (log 19); a frame met in any other state is read byte by byte (R231, R232, R240). -/
def Obligations.FrameOnTheInboundLink : Prop :=
  ∀ (i : Instr) (h : Header) (s : State), i.header = some (.inb, h) → s.rxState = .hdr → s.rxCnt = 0 → s.inb = [] →
    s.errInb = false →
    ∃ s1 : State, s1 = { s with
        rxHdr := h, rxTag := h.h0, rxParams := ⟨h.h1, h.h2, h.h3, h.h4⟩
        rxWd := if 0 < s.cfg.rxTimeoutTicks then BitVec.ofNat 32 s.cfg.rxTimeoutTicks else s.rxWd } ∧
    (Tag.ofByte h.h0 = none → exec i s =
      .next { s1 with
        rxOutcome := .malformedFrame, rxState := .error
        evt := s.evt ++ [.rxErr .malformedFrame h.h0 s1.rxParams s.rxGot] }) ∧
    (∀ t len, Tag.ofByte h.h0 = some t → len = fcPaylen s.cfg.tag2Kind t s1.rxParams →
      (s.cfg.maxPayload < len → exec i s =
        .next { s1 with
          rxLen := BitVec.ofNat 32 len, rxGot := 0, rxOutcome := .malformedFrame, rxState := .error
          evt := s.evt ++ [.rxErr .malformedFrame h.h0 s1.rxParams 0] }) ∧
      (len = 0 → exec i s =
        .next { s1 with rxLen := 0, rxGot := 0, dlv := s.dlv ++ [⟨h.h0, s1.rxParams, []⟩] }) ∧
      (0 < len → len ≤ s.cfg.maxPayload → exec i s =
        .next { s1 with rxLen := BitVec.ofNat 32 len, rxGot := 0, rxState := .payload }))

/-- A whole frame with its payload on INB (R91, R230, R245): as many turns of RX as there are bytes take exactly those
bytes and deliver the payload, unpacked for tag 0x04, leaving the receiver at the next frame boundary. -/
def Obligations.WholeFrameIsDelivered : Prop :=
  ∀ (s : State) (h : Header) (t : Tag) (payload rest : List Byte), s.rxState = .hdr → s.rxCnt = 0 →
    s.errInb = false → Tag.ofByte h.h0 = some t →
    payload.length = fcPaylen s.cfg.tag2Kind t h.params → payload.length ≤ s.cfg.maxPayload →
    s.inb = h.bytes ++ payload ++ rest →
    ∃ u, Host.Core.run Sys2Proof.core (5 + payload.length)
        { s with agenda := List.replicate (5 + payload.length) (.turn .rx) } = .next u ∧
      u.inb = rest ∧ u.rxState = .hdr ∧ u.rxCnt = 0 ∧ u.rxTag = h.h0 ∧ u.rxParams = h.params ∧
      u.rxLen.toNat = payload.length ∧ u.rxGot.toNat = payload.length ∧ u.rxOutcome = s.rxOutcome ∧
      u.dlv = s.dlv ++ [⟨h.h0, h.params,
        if t = .image3Bit then
          icUnpack3Seq s.cfg.unpackLut payload (fcDims h.params).2 (fcDims h.params).1
        else payload⟩] ∧
      u.evt = s.evt ∧ u.out = s.out ∧ u.mem = s.mem ∧ TxRegsEq s u ∧ AlRegsEq s u ∧ u.aq = s.aq

/-- The receiver's invariant ("`rx_got` < `rx_len` always holds here", R240) is kept by every step. -/
def Obligations.ReceiverInvariantIsKept : Prop :=
  ∀ s t : State, RxInv s → step s = .next t → RxInv t

/-! ### The whole machine -/

/-- Both memories keep their canonical form and their bounds (R51), the listener its invariant (R25, R181), the queue
its bound (R32), and TX never reports an outcome of another unit (R291), over every step. -/
def Obligations.MemoryQueueAndListenerInvariantsAreKept : Prop :=
  (∀ s t : State, MemoryInv s → step s = .next t → MemoryInv t) ∧
  (∀ s t : State, AlInv s → step s = .next t → AlInv t) ∧
  (∀ s t : State, QueueInv s → step s = .next t → QueueInv t) ∧
  (∀ s t : State, TxOutcomeInv s → step s = .next t → TxOutcomeInv t)

/-- The invariants hold after reset, under every configuration. -/
def Obligations.InvariantsHoldAfterReset : Prop :=
  ∀ c n, MemoryInv (State.resetWith c n) ∧ TxInv (State.resetWith c n) ∧ AlInv (State.resetWith c n) ∧
    QueueInv (State.resetWith c n) ∧ RxInv (State.resetWith c n) ∧ TxOutcomeInv (State.resetWith c n)

/-- "no access of the block is ever out of range" (R51): no step faults in a state where the invariants of TX and RX
hold. -/
def Obligations.NoStepFaults : Prop :=
  ∀ s f, TxInv s → RxInv s → step s ≠ .fault f

/-- The four accesses the spec rules out (R51, R195): in a state no run from reset reaches, the step that would make
one stops with the fault named for it (log 12). -/
def Obligations.ImpossibleAccessesStop : Prop :=
  (∀ s : State, s.txState = .hsSend → s.errOut = false → Tag.ofByte s.txTag = none →
    exec .txHsByte s = .fault (.handshakeTag s.txTag)) ∧
  (∀ s : State, s.txState = .hsSend → s.errOut = false → Tag.ofByte s.txTag ≠ none → 5 ≤ s.txIdx.toNat →
    exec .txHsByte s = .fault (.headerIndex s.txIdx.toNat)) ∧
  (∀ s : State, s.txState = .chunkSend → s.errOut = false → s.cfg.memBytes ≤ s.txBase.toNat + s.sent.toNat →
    exec .txChunkByte s = .fault (.memOutOfRange (s.txBase.toNat + s.sent.toNat))) ∧
  (∀ s : State, s.rxState = .payload → s.errInb = false → s.inb ≠ [] → s.cfg.maxPayload ≤ s.rxGot.toNat →
    exec .rxPayByte s = .fault (.rxbufOutOfRange s.rxGot.toNat))

/-- TICK (R311): `wd` counts down in a wait state, `rx_wd` inside a frame when there is a deadline; a counter at 0
stays at 0; nothing else changes. -/
def Obligations.TickDecrementsTheCounters : Prop :=
  ∀ s : State, exec .tick s =
    .next { s with
      wd := if (s.txState = .hsWait ∨ s.txState = .chunkWait) ∧ 0 < s.wd.toNat then s.wd - 1 else s.wd
      rxWd :=
        if 0 < s.cfg.rxTimeoutTicks ∧ 0 < s.rxWd.toNat ∧
            ((s.rxState = .hdr ∧ 0 < s.rxCnt.toNat) ∨ s.rxState = .payload) then s.rxWd - 1
        else s.rxWd }

/-- Ownership (R306, R321): a step of TX, AL or RX writes only its own registers, its own side of AQ and its own
channels; it only takes from the head of what it reads and only appends to what it writes (R52). -/
def Obligations.UnitsWriteOnlyWhatTheyOwn : Prop :=
  (∀ (i : Instr) (s t : State), unitOf i = some .tx → exec i s = .next t →
    AlRegsEq s t ∧ RxRegsEq s t ∧ InputsEq s t ∧ t.mem = s.mem ∧ t.ret = s.ret ∧ t.inb = s.inb ∧ t.diag = s.diag ∧
      t.log = s.log ∧ t.dlv = s.dlv ∧ t.aq <:+ s.aq ∧ s.out <+: t.out ∧ s.evt <+: t.evt) ∧
  (∀ (i : Instr) (s t : State), unitOf i = some .al → exec i s = .next t →
    TxRegsEq s t ∧ RxRegsEq s t ∧ InputsEq s t ∧ t.mem = s.mem ∧ t.out = s.out ∧ t.inb = s.inb ∧ t.dlv = s.dlv ∧
      t.ret <:+ s.ret ∧ s.aq <+: t.aq ∧ s.diag <+: t.diag ∧ s.log <+: t.log ∧ s.evt <+: t.evt) ∧
  (∀ (i : Instr) (s t : State), unitOf i = some .rx → exec i s = .next t →
    TxRegsEq s t ∧ AlRegsEq s t ∧ InputsEq s t ∧ t.mem = s.mem ∧ t.out = s.out ∧ t.ret = s.ret ∧ t.diag = s.diag ∧
      t.log = s.log ∧ t.aq = s.aq ∧ t.inb <:+ s.inb ∧ s.dlv <+: t.dlv ∧ s.evt <+: t.evt)

/-- The configuration record is never written (R8), and outside reset the error inputs, the sticky flags and AL_ERROR
stay as they are once set (R38, R29, R330). -/
def Obligations.OnlyResetClearsStickyState : Prop :=
  ∀ s t : State, step s = .next t → t.cfg = s.cfg ∧
    (t.epoch = s.epoch →
      (s.errOut = true → t.errOut = true) ∧ (s.errRet = true → t.errRet = true) ∧
      (s.errInb = true → t.errInb = true) ∧ (s.aqOvf = true → t.aqOvf = true) ∧
      (s.alLinkErr = true → t.alLinkErr = true) ∧ (s.alState = .error → t.alState = .error))

/-- The next-state relations of AL (R183) and of RX (R255): a step that is neither reset nor a whole frame changes
`al_state` and `rx_state` only as the tables say, each row under its condition: a header that is malformed or too long,
a recognised one with a payload, the byte that completes the payload, RX.RESTART. In RX's rows into RX_ERROR, that the
event RX_ERR carries the tag, the parameters and `rx_got` as the same step leaves them is the model's reading (log 19);
R255 does not mention the event. -/
def Obligations.ListenerAndReceiverFollowTheirTables : Prop :=
  ∀ s t : State, step s = .next t → t.epoch = s.epoch → (∀ l h rest, s.agenda ≠ .frame l h :: rest) → AlMove s t ∧
  RxMove s t

/-- The Retry Controller (R277, R278, R281): after M recoverable failures that the attempt limit allows, the next
attempt is number M + 1 after M waits, and Success or a fatal outcome there is the answer; the attempt that reaches
MAX_ATTEMPTS is answered without another wait. The controller as a function of what its attempts answer is the model's
choice (log 17); RetryLoopAnswersAsItsScript ties it to the machine. -/
def Obligations.RetryControllerConverges : Prop :=
  ∀ (fails : List OutcomeCode) maxAttempts rest,
    (∀ c ∈ fails, c = .handshakeTimeout ∨ c = .peerNak) →
    ((∀ m, maxAttempts = some m → fails.length + 1 ≤ m) →
      rcContinuous maxAttempts 0 (fails.map .done ++ .done .success :: rest) =
        ⟨fails.length + 1, fails.length, some (.done .success)⟩ ∧
      ∀ f, f = .protocolMismatch ∨ f = .malformedFrame ∨ f = .linkIoFailure ∨ f = .chunkAckTimeout →
        rcContinuous maxAttempts 0 (fails.map .done ++ .done f :: rest) =
          ⟨fails.length + 1, fails.length, some (.done f)⟩) ∧
    (∀ c, c = .handshakeTimeout ∨ c = .peerNak → maxAttempts = some (fails.length + 1) →
      rcContinuous maxAttempts 0 (fails.map .done ++ .done c :: rest) =
        ⟨fails.length + 1, fails.length, some (.done c)⟩)

/-- The loop around TX.START and TX_DONE (R275 to R277), one turn of HOST at a time. Every attempt issues TX.START with the
same operands; refused, the call returns CmdRejected; accepted, HOST takes the elements of EVT, passes over those older
than the attempt and those that are no TX_DONE, and the TX_DONE of the attempt gives its outcome. That ends the call in
single-shot mode, after Success or a fatal outcome (R278), and at attempt MAX_ATTEMPTS; otherwise a backoff follows and
then the next attempt. The model's choice (log 17): HOST's turns as a machine of its own, and that it tells the elements
of EVT older than the attempt by counting them. -/
def Obligations.RetryLoopIssuesStartAndAwaitsDone : Prop :=
  (∀ (r : RetryState) s, r.phase = .start →
    ∃ t, exec (.txStart r.attempt.tag r.attempt.params r.attempt.base) s = .next t ∧
      (t.result = .status .cmdRejected → retryTurn r s =
        .next ({ r with
          phase := .over, answers := r.answers ++ [.rejected]
          run := ⟨r.run.starts + 1, r.run.waits, some .rejected⟩ }, t)) ∧
      (t.result ≠ .status .cmdRejected → retryTurn r s =
        .next ({ r with phase := .await s.evt.length, run := { r.run with starts := r.run.starts + 1 } }, t))) ∧
  (∀ (r : RetryState) s n e rest, r.phase = .await (n + 1) → s.evt = e :: rest →
    retryTurn r s = .next ({ r with phase := .await n }, { s with evt := rest })) ∧
  (∀ (r : RetryState) s e rest, r.phase = .await 0 → s.evt = e :: rest →
    (∀ code info sent expect, e ≠ .txDone code info sent expect) →
    retryTurn r s = .next ({ r with phase := .await 0 }, { s with evt := rest })) ∧
  (∀ (r : RetryState) s code info sent expect rest, r.phase = .await 0 →
    s.evt = .txDone code info sent expect :: rest → code ≠ .none → code ≠ .cmdRejected →
    (r.mode = .single ∨ (code ≠ .handshakeTimeout ∧ code ≠ .peerNak) ∨ s.cfg.maxAttempts = some (r.answers.length + 1) →
      retryTurn r s =
        .next ({ r with
          phase := .over, answers := r.answers ++ [.done code]
          run := { r.run with answer := some (.done code) } }, { s with evt := rest })) ∧
    (r.mode = .continuous → code = .handshakeTimeout ∨ code = .peerNak →
      s.cfg.maxAttempts ≠ some (r.answers.length + 1) →
      retryTurn r s =
        .next ({ r with
          phase := .backoff, answers := r.answers ++ [.done code]
          run := { r.run with waits := r.run.waits + 1 } }, { s with evt := rest }))) ∧
  (∀ (r : RetryState) s n, r.phase = .await n → s.evt = [] → retryTurn r s = .next (r, s)) ∧
  (∀ (r : RetryState) s, r.phase = .backoff → retryTurn r s = .next ({ r with phase := .start }, s)) ∧
  (∀ (r : RetryState) s, r.phase = .over → retryTurn r s = .next (r, s))

/-- The loop over the machine does what the loop over answers does (R276, R277): after any moves of HOST and machine from
the call on, while an attempt is awaited and when the call has returned, the starts, the waits and the answer are those
of RC.SINGLE or RC.CONTINUOUS on the answers the attempts have given, and the operands are still those of the call. The
model's choice is the form of both loops (log 17). -/
def Obligations.RetryLoopAnswersAsItsScript : Prop :=
  ∀ (moves : List RetryMove) ops attempt mode (s : State) r t,
    retryRun moves (RetryState.begin ops attempt mode) s = .next (r, t) →
    r.attempt = attempt ∧ r.mode = mode ∧
    ((r.phase = .over ∨ ∃ n, r.phase = .await n) →
      r.run =
        match mode with
        | .single => rcSingle r.answers
        | .continuous => rcContinuous s.cfg.maxAttempts 0 r.answers)

/-- The host commands of R104: the operations each expands to, byte i of the sequence written at `a + i`, and which of
them can stand in the continuous loop; each operation before TX.START is one turn of HOST. Three clauses are the model's
choice (log 21), where R104 says nothing. HOST goes on to the next operation whatever result the last returned, a
rejection too (unsafe). The list `hostWrite` goes on at address 0 after 0xFFFFFFFF, and no command uses it there. A command
whose bytes pass address 0xFFFFFFFF, a raw or string command whose count no u32 holds, and an image command whose matrix is
not height · width bytes have no expansion. That the 8-bit image needs TAG2_KIND = Image8Bit is R104's; that it has no
expansion without is log 21's. -/
def Obligations.HostCommandsExpandToOperations : Prop :=
  (∀ (c : Config) m (height width : U16) (a : U32), c.tag2Kind = .image8Bit →
    m.length = height.toNat * width.toNat → a.toNat + m.length ≤ 2 ^ 32 →
    ∃ p, hostSendImage8 c m height width a = some p ∧ p.mode = .single ∧
      p.ops = hostWrite a m ++ [.txStart 0x02 (paramsD height width) a]) ∧
  (∀ m (height width : U16) (a b : U32) mode, m.length = height.toNat * width.toNat → a.toNat + m.length ≤ 2 ^ 32 →
    ∃ p, hostSendImage3 m height width a b mode = some p ∧ p.mode = mode ∧
      p.ops = hostWrite a m ++ [.icPack3 a height width b, .txStart 0x04 (paramsD height width) b]) ∧
  (∀ m (a : U32) mode, m.length < 2 ^ 32 → a.toNat + m.length ≤ 2 ^ 32 →
    (∃ p, hostSendRaw m a mode = some p ∧ p.mode = mode ∧
      p.ops = hostWrite a m ++ [.txStart 0x01 (paramsC (BitVec.ofNat 32 m.length)) a]) ∧
    ∃ p, hostSendString m a = some p ∧ p.mode = .single ∧
      p.ops = hostWrite a m ++ [.txStart 0x03 (paramsC (BitVec.ofNat 32 m.length)) a]) ∧
  (∀ (a : U32) (m : List Byte), hostWrite a m = m.zipIdx.map fun x => .memWrite (a + BitVec.ofNat 32 x.2) x.1) ∧
  (∀ (r : RetryState) i ops s t, r.phase = .prepare (i :: ops) → i.wf s.cfg.tag2Kind = true → i.command ≠ none →
    exec i s = .next t → retryTurn r s = .next ({ r with phase := .prepare ops }, t)) ∧
  (∀ (r : RetryState) s, r.phase = .prepare [] → retryTurn r s = .next ({ r with phase := .start }, s)) ∧
  (∀ c m height width a, c.tag2Kind ≠ .image8Bit → hostSendImage8 c m height width a = none) ∧
  (∀ c m (height width : U16) (a b : U32) mode,
    m.length ≠ height.toNat * width.toNat ∨ 2 ^ 32 < a.toNat + m.length →
    hostSendImage8 c m height width a = none ∧ hostSendImage3 m height width a b mode = none) ∧
  (∀ m (a : U32) mode, 2 ^ 32 ≤ m.length ∨ 2 ^ 32 < a.toNat + m.length →
    hostSendRaw m a mode = none ∧ hostSendString m a = none)
end

