-- ==== Sys2Proof/Laws/State.lean ====
section
/-! SUPPORT. What each named update of the state does to each field: one lemma a field, so that no proof unfolds a record
update. -/

namespace Sys2Proof.Machine

/-! ### `setResult`: Returning a result (R96) -/

@[simp] theorem setResult_txState (r : Result) (s : State) : (setResult r s).txState = s.txState := rfl
@[simp] theorem setResult_txIdx (r : Result) (s : State) : (setResult r s).txIdx = s.txIdx := rfl
@[simp] theorem setResult_txTag (r : Result) (s : State) : (setResult r s).txTag = s.txTag := rfl
@[simp] theorem setResult_txParams (r : Result) (s : State) : (setResult r s).txParams = s.txParams := rfl
@[simp] theorem setResult_txBase (r : Result) (s : State) : (setResult r s).txBase = s.txBase := rfl
@[simp] theorem setResult_totalLen (r : Result) (s : State) : (setResult r s).totalLen = s.totalLen := rfl
@[simp] theorem setResult_sent (r : Result) (s : State) : (setResult r s).sent = s.sent := rfl
@[simp] theorem setResult_expect (r : Result) (s : State) : (setResult r s).expect = s.expect := rfl
@[simp] theorem setResult_chunkRem (r : Result) (s : State) : (setResult r s).chunkRem = s.chunkRem := rfl
@[simp] theorem setResult_wd (r : Result) (s : State) : (setResult r s).wd = s.wd := rfl
@[simp] theorem setResult_txOutcome (r : Result) (s : State) : (setResult r s).txOutcome = s.txOutcome := rfl
@[simp] theorem setResult_txInfo (r : Result) (s : State) : (setResult r s).txInfo = s.txInfo := rfl
@[simp] theorem setResult_alState (r : Result) (s : State) : (setResult r s).alState = s.alState := rfl
@[simp] theorem setResult_alCnt (r : Result) (s : State) : (setResult r s).alCnt = s.alCnt := rfl
@[simp] theorem setResult_alHdr (r : Result) (s : State) : (setResult r s).alHdr = s.alHdr := rfl
@[simp] theorem setResult_aqOvf (r : Result) (s : State) : (setResult r s).aqOvf = s.aqOvf := rfl
@[simp] theorem setResult_alLinkErr (r : Result) (s : State) : (setResult r s).alLinkErr = s.alLinkErr := rfl
@[simp] theorem setResult_rxState (r : Result) (s : State) : (setResult r s).rxState = s.rxState := rfl
@[simp] theorem setResult_rxCnt (r : Result) (s : State) : (setResult r s).rxCnt = s.rxCnt := rfl
@[simp] theorem setResult_rxHdr (r : Result) (s : State) : (setResult r s).rxHdr = s.rxHdr := rfl
@[simp] theorem setResult_rxTag (r : Result) (s : State) : (setResult r s).rxTag = s.rxTag := rfl
@[simp] theorem setResult_rxParams (r : Result) (s : State) : (setResult r s).rxParams = s.rxParams := rfl
@[simp] theorem setResult_rxLen (r : Result) (s : State) : (setResult r s).rxLen = s.rxLen := rfl
@[simp] theorem setResult_rxGot (r : Result) (s : State) : (setResult r s).rxGot = s.rxGot := rfl
@[simp] theorem setResult_rxWd (r : Result) (s : State) : (setResult r s).rxWd = s.rxWd := rfl
@[simp] theorem setResult_rxOutcome (r : Result) (s : State) : (setResult r s).rxOutcome = s.rxOutcome := rfl
@[simp] theorem setResult_errOut (r : Result) (s : State) : (setResult r s).errOut = s.errOut := rfl
@[simp] theorem setResult_errRet (r : Result) (s : State) : (setResult r s).errRet = s.errRet := rfl
@[simp] theorem setResult_errInb (r : Result) (s : State) : (setResult r s).errInb = s.errInb := rfl
@[simp] theorem setResult_aq (r : Result) (s : State) : (setResult r s).aq = s.aq := rfl
@[simp] theorem setResult_mem (r : Result) (s : State) : (setResult r s).mem = s.mem := rfl
@[simp] theorem setResult_rxbuf (r : Result) (s : State) : (setResult r s).rxbuf = s.rxbuf := rfl
@[simp] theorem setResult_out (r : Result) (s : State) : (setResult r s).out = s.out := rfl
@[simp] theorem setResult_ret (r : Result) (s : State) : (setResult r s).ret = s.ret := rfl
@[simp] theorem setResult_inb (r : Result) (s : State) : (setResult r s).inb = s.inb := rfl
@[simp] theorem setResult_diag (r : Result) (s : State) : (setResult r s).diag = s.diag := rfl
@[simp] theorem setResult_log (r : Result) (s : State) : (setResult r s).log = s.log := rfl
@[simp] theorem setResult_dlv (r : Result) (s : State) : (setResult r s).dlv = s.dlv := rfl
@[simp] theorem setResult_evt (r : Result) (s : State) : (setResult r s).evt = s.evt := rfl
@[simp] theorem setResult_cfg (r : Result) (s : State) : (setResult r s).cfg = s.cfg := rfl
@[simp] theorem setResult_result (r : Result) (s : State) : (setResult r s).result = r := rfl
@[simp] theorem setResult_epoch (r : Result) (s : State) : (setResult r s).epoch = s.epoch := rfl
@[simp] theorem setResult_agenda (r : Result) (s : State) : (setResult r s).agenda = s.agenda := rfl

/-! ### `aqDrop`: AQ.DEQ (R164) -/

@[simp] theorem aqDrop_txState (s : State) : (aqDrop s).txState = s.txState := rfl
@[simp] theorem aqDrop_txIdx (s : State) : (aqDrop s).txIdx = s.txIdx := rfl
@[simp] theorem aqDrop_txTag (s : State) : (aqDrop s).txTag = s.txTag := rfl
@[simp] theorem aqDrop_txParams (s : State) : (aqDrop s).txParams = s.txParams := rfl
@[simp] theorem aqDrop_txBase (s : State) : (aqDrop s).txBase = s.txBase := rfl
@[simp] theorem aqDrop_totalLen (s : State) : (aqDrop s).totalLen = s.totalLen := rfl
@[simp] theorem aqDrop_sent (s : State) : (aqDrop s).sent = s.sent := rfl
@[simp] theorem aqDrop_expect (s : State) : (aqDrop s).expect = s.expect := rfl
@[simp] theorem aqDrop_chunkRem (s : State) : (aqDrop s).chunkRem = s.chunkRem := rfl
@[simp] theorem aqDrop_wd (s : State) : (aqDrop s).wd = s.wd := rfl
@[simp] theorem aqDrop_txOutcome (s : State) : (aqDrop s).txOutcome = s.txOutcome := rfl
@[simp] theorem aqDrop_txInfo (s : State) : (aqDrop s).txInfo = s.txInfo := rfl
@[simp] theorem aqDrop_alState (s : State) : (aqDrop s).alState = s.alState := rfl
@[simp] theorem aqDrop_alCnt (s : State) : (aqDrop s).alCnt = s.alCnt := rfl
@[simp] theorem aqDrop_alHdr (s : State) : (aqDrop s).alHdr = s.alHdr := rfl
@[simp] theorem aqDrop_aqOvf (s : State) : (aqDrop s).aqOvf = s.aqOvf := rfl
@[simp] theorem aqDrop_alLinkErr (s : State) : (aqDrop s).alLinkErr = s.alLinkErr := rfl
@[simp] theorem aqDrop_rxState (s : State) : (aqDrop s).rxState = s.rxState := rfl
@[simp] theorem aqDrop_rxCnt (s : State) : (aqDrop s).rxCnt = s.rxCnt := rfl
@[simp] theorem aqDrop_rxHdr (s : State) : (aqDrop s).rxHdr = s.rxHdr := rfl
@[simp] theorem aqDrop_rxTag (s : State) : (aqDrop s).rxTag = s.rxTag := rfl
@[simp] theorem aqDrop_rxParams (s : State) : (aqDrop s).rxParams = s.rxParams := rfl
@[simp] theorem aqDrop_rxLen (s : State) : (aqDrop s).rxLen = s.rxLen := rfl
@[simp] theorem aqDrop_rxGot (s : State) : (aqDrop s).rxGot = s.rxGot := rfl
@[simp] theorem aqDrop_rxWd (s : State) : (aqDrop s).rxWd = s.rxWd := rfl
@[simp] theorem aqDrop_rxOutcome (s : State) : (aqDrop s).rxOutcome = s.rxOutcome := rfl
@[simp] theorem aqDrop_errOut (s : State) : (aqDrop s).errOut = s.errOut := rfl
@[simp] theorem aqDrop_errRet (s : State) : (aqDrop s).errRet = s.errRet := rfl
@[simp] theorem aqDrop_errInb (s : State) : (aqDrop s).errInb = s.errInb := rfl
@[simp] theorem aqDrop_aq (s : State) : (aqDrop s).aq = s.aq.tail := rfl
@[simp] theorem aqDrop_mem (s : State) : (aqDrop s).mem = s.mem := rfl
@[simp] theorem aqDrop_rxbuf (s : State) : (aqDrop s).rxbuf = s.rxbuf := rfl
@[simp] theorem aqDrop_out (s : State) : (aqDrop s).out = s.out := rfl
@[simp] theorem aqDrop_ret (s : State) : (aqDrop s).ret = s.ret := rfl
@[simp] theorem aqDrop_inb (s : State) : (aqDrop s).inb = s.inb := rfl
@[simp] theorem aqDrop_diag (s : State) : (aqDrop s).diag = s.diag := rfl
@[simp] theorem aqDrop_log (s : State) : (aqDrop s).log = s.log := rfl
@[simp] theorem aqDrop_dlv (s : State) : (aqDrop s).dlv = s.dlv := rfl
@[simp] theorem aqDrop_evt (s : State) : (aqDrop s).evt = s.evt := rfl
@[simp] theorem aqDrop_cfg (s : State) : (aqDrop s).cfg = s.cfg := rfl
@[simp] theorem aqDrop_result (s : State) : (aqDrop s).result = s.result := rfl
@[simp] theorem aqDrop_epoch (s : State) : (aqDrop s).epoch = s.epoch := rfl
@[simp] theorem aqDrop_agenda (s : State) : (aqDrop s).agenda = s.agenda := rfl

/-! ### `aqClear`: AQ.CLEAR (R165) -/

@[simp] theorem aqClear_txState (s : State) : (aqClear s).txState = s.txState := rfl
@[simp] theorem aqClear_txIdx (s : State) : (aqClear s).txIdx = s.txIdx := rfl
@[simp] theorem aqClear_txTag (s : State) : (aqClear s).txTag = s.txTag := rfl
@[simp] theorem aqClear_txParams (s : State) : (aqClear s).txParams = s.txParams := rfl
@[simp] theorem aqClear_txBase (s : State) : (aqClear s).txBase = s.txBase := rfl
@[simp] theorem aqClear_totalLen (s : State) : (aqClear s).totalLen = s.totalLen := rfl
@[simp] theorem aqClear_sent (s : State) : (aqClear s).sent = s.sent := rfl
@[simp] theorem aqClear_expect (s : State) : (aqClear s).expect = s.expect := rfl
@[simp] theorem aqClear_chunkRem (s : State) : (aqClear s).chunkRem = s.chunkRem := rfl
@[simp] theorem aqClear_wd (s : State) : (aqClear s).wd = s.wd := rfl
@[simp] theorem aqClear_txOutcome (s : State) : (aqClear s).txOutcome = s.txOutcome := rfl
@[simp] theorem aqClear_txInfo (s : State) : (aqClear s).txInfo = s.txInfo := rfl
@[simp] theorem aqClear_alState (s : State) : (aqClear s).alState = s.alState := rfl
@[simp] theorem aqClear_alCnt (s : State) : (aqClear s).alCnt = s.alCnt := rfl
@[simp] theorem aqClear_alHdr (s : State) : (aqClear s).alHdr = s.alHdr := rfl
@[simp] theorem aqClear_aqOvf (s : State) : (aqClear s).aqOvf = s.aqOvf := rfl
@[simp] theorem aqClear_alLinkErr (s : State) : (aqClear s).alLinkErr = s.alLinkErr := rfl
@[simp] theorem aqClear_rxState (s : State) : (aqClear s).rxState = s.rxState := rfl
@[simp] theorem aqClear_rxCnt (s : State) : (aqClear s).rxCnt = s.rxCnt := rfl
@[simp] theorem aqClear_rxHdr (s : State) : (aqClear s).rxHdr = s.rxHdr := rfl
@[simp] theorem aqClear_rxTag (s : State) : (aqClear s).rxTag = s.rxTag := rfl
@[simp] theorem aqClear_rxParams (s : State) : (aqClear s).rxParams = s.rxParams := rfl
@[simp] theorem aqClear_rxLen (s : State) : (aqClear s).rxLen = s.rxLen := rfl
@[simp] theorem aqClear_rxGot (s : State) : (aqClear s).rxGot = s.rxGot := rfl
@[simp] theorem aqClear_rxWd (s : State) : (aqClear s).rxWd = s.rxWd := rfl
@[simp] theorem aqClear_rxOutcome (s : State) : (aqClear s).rxOutcome = s.rxOutcome := rfl
@[simp] theorem aqClear_errOut (s : State) : (aqClear s).errOut = s.errOut := rfl
@[simp] theorem aqClear_errRet (s : State) : (aqClear s).errRet = s.errRet := rfl
@[simp] theorem aqClear_errInb (s : State) : (aqClear s).errInb = s.errInb := rfl
@[simp] theorem aqClear_aq (s : State) : (aqClear s).aq = [] := rfl
@[simp] theorem aqClear_mem (s : State) : (aqClear s).mem = s.mem := rfl
@[simp] theorem aqClear_rxbuf (s : State) : (aqClear s).rxbuf = s.rxbuf := rfl
@[simp] theorem aqClear_out (s : State) : (aqClear s).out = s.out := rfl
@[simp] theorem aqClear_ret (s : State) : (aqClear s).ret = s.ret := rfl
@[simp] theorem aqClear_inb (s : State) : (aqClear s).inb = s.inb := rfl
@[simp] theorem aqClear_diag (s : State) : (aqClear s).diag = s.diag := rfl
@[simp] theorem aqClear_log (s : State) : (aqClear s).log = s.log := rfl
@[simp] theorem aqClear_dlv (s : State) : (aqClear s).dlv = s.dlv := rfl
@[simp] theorem aqClear_evt (s : State) : (aqClear s).evt = s.evt := rfl
@[simp] theorem aqClear_cfg (s : State) : (aqClear s).cfg = s.cfg := rfl
@[simp] theorem aqClear_result (s : State) : (aqClear s).result = s.result := rfl
@[simp] theorem aqClear_epoch (s : State) : (aqClear s).epoch = s.epoch := rfl
@[simp] theorem aqClear_agenda (s : State) : (aqClear s).agenda = s.agenda := rfl

/-! ### `txRaise`: `raise` of TX (R211) -/

@[simp] theorem txRaise_txState (x : OutcomeCode) (s : State) : (txRaise x s).txState = .idle := rfl
@[simp] theorem txRaise_txIdx (x : OutcomeCode) (s : State) : (txRaise x s).txIdx = s.txIdx := rfl
@[simp] theorem txRaise_txTag (x : OutcomeCode) (s : State) : (txRaise x s).txTag = s.txTag := rfl
@[simp] theorem txRaise_txParams (x : OutcomeCode) (s : State) : (txRaise x s).txParams = s.txParams := rfl
@[simp] theorem txRaise_txBase (x : OutcomeCode) (s : State) : (txRaise x s).txBase = s.txBase := rfl
@[simp] theorem txRaise_totalLen (x : OutcomeCode) (s : State) : (txRaise x s).totalLen = s.totalLen := rfl
@[simp] theorem txRaise_sent (x : OutcomeCode) (s : State) : (txRaise x s).sent = s.sent := rfl
@[simp] theorem txRaise_expect (x : OutcomeCode) (s : State) : (txRaise x s).expect = s.expect := rfl
@[simp] theorem txRaise_chunkRem (x : OutcomeCode) (s : State) : (txRaise x s).chunkRem = s.chunkRem := rfl
@[simp] theorem txRaise_wd (x : OutcomeCode) (s : State) : (txRaise x s).wd = s.wd := rfl
@[simp] theorem txRaise_txOutcome (x : OutcomeCode) (s : State) : (txRaise x s).txOutcome = x := rfl
@[simp] theorem txRaise_txInfo (x : OutcomeCode) (s : State) : (txRaise x s).txInfo = s.txInfo := rfl
@[simp] theorem txRaise_alState (x : OutcomeCode) (s : State) : (txRaise x s).alState = s.alState := rfl
@[simp] theorem txRaise_alCnt (x : OutcomeCode) (s : State) : (txRaise x s).alCnt = s.alCnt := rfl
@[simp] theorem txRaise_alHdr (x : OutcomeCode) (s : State) : (txRaise x s).alHdr = s.alHdr := rfl
@[simp] theorem txRaise_aqOvf (x : OutcomeCode) (s : State) : (txRaise x s).aqOvf = s.aqOvf := rfl
@[simp] theorem txRaise_alLinkErr (x : OutcomeCode) (s : State) : (txRaise x s).alLinkErr = s.alLinkErr := rfl
@[simp] theorem txRaise_rxState (x : OutcomeCode) (s : State) : (txRaise x s).rxState = s.rxState := rfl
@[simp] theorem txRaise_rxCnt (x : OutcomeCode) (s : State) : (txRaise x s).rxCnt = s.rxCnt := rfl
@[simp] theorem txRaise_rxHdr (x : OutcomeCode) (s : State) : (txRaise x s).rxHdr = s.rxHdr := rfl
@[simp] theorem txRaise_rxTag (x : OutcomeCode) (s : State) : (txRaise x s).rxTag = s.rxTag := rfl
@[simp] theorem txRaise_rxParams (x : OutcomeCode) (s : State) : (txRaise x s).rxParams = s.rxParams := rfl
@[simp] theorem txRaise_rxLen (x : OutcomeCode) (s : State) : (txRaise x s).rxLen = s.rxLen := rfl
@[simp] theorem txRaise_rxGot (x : OutcomeCode) (s : State) : (txRaise x s).rxGot = s.rxGot := rfl
@[simp] theorem txRaise_rxWd (x : OutcomeCode) (s : State) : (txRaise x s).rxWd = s.rxWd := rfl
@[simp] theorem txRaise_rxOutcome (x : OutcomeCode) (s : State) : (txRaise x s).rxOutcome = s.rxOutcome := rfl
@[simp] theorem txRaise_errOut (x : OutcomeCode) (s : State) : (txRaise x s).errOut = s.errOut := rfl
@[simp] theorem txRaise_errRet (x : OutcomeCode) (s : State) : (txRaise x s).errRet = s.errRet := rfl
@[simp] theorem txRaise_errInb (x : OutcomeCode) (s : State) : (txRaise x s).errInb = s.errInb := rfl
@[simp] theorem txRaise_aq (x : OutcomeCode) (s : State) : (txRaise x s).aq = s.aq := rfl
@[simp] theorem txRaise_mem (x : OutcomeCode) (s : State) : (txRaise x s).mem = s.mem := rfl
@[simp] theorem txRaise_rxbuf (x : OutcomeCode) (s : State) : (txRaise x s).rxbuf = s.rxbuf := rfl
@[simp] theorem txRaise_out (x : OutcomeCode) (s : State) : (txRaise x s).out = s.out := rfl
@[simp] theorem txRaise_ret (x : OutcomeCode) (s : State) : (txRaise x s).ret = s.ret := rfl
@[simp] theorem txRaise_inb (x : OutcomeCode) (s : State) : (txRaise x s).inb = s.inb := rfl
@[simp] theorem txRaise_diag (x : OutcomeCode) (s : State) : (txRaise x s).diag = s.diag := rfl
@[simp] theorem txRaise_log (x : OutcomeCode) (s : State) : (txRaise x s).log = s.log := rfl
@[simp] theorem txRaise_dlv (x : OutcomeCode) (s : State) : (txRaise x s).dlv = s.dlv := rfl
@[simp] theorem txRaise_evt (x : OutcomeCode) (s : State) :
    (txRaise x s).evt = s.evt ++ [.txDone x s.txInfo s.sent s.expect] := rfl
@[simp] theorem txRaise_cfg (x : OutcomeCode) (s : State) : (txRaise x s).cfg = s.cfg := rfl
@[simp] theorem txRaise_result (x : OutcomeCode) (s : State) : (txRaise x s).result = s.result := rfl
@[simp] theorem txRaise_epoch (x : OutcomeCode) (s : State) : (txRaise x s).epoch = s.epoch := rfl
@[simp] theorem txRaise_agenda (x : OutcomeCode) (s : State) : (txRaise x s).agenda = s.agenda := rfl

/-! ### `rxRaise`: `raise` of RX (R253) -/

@[simp] theorem rxRaise_txState (x : OutcomeCode) (s : State) : (rxRaise x s).txState = s.txState := rfl
@[simp] theorem rxRaise_txIdx (x : OutcomeCode) (s : State) : (rxRaise x s).txIdx = s.txIdx := rfl
@[simp] theorem rxRaise_txTag (x : OutcomeCode) (s : State) : (rxRaise x s).txTag = s.txTag := rfl
@[simp] theorem rxRaise_txParams (x : OutcomeCode) (s : State) : (rxRaise x s).txParams = s.txParams := rfl
@[simp] theorem rxRaise_txBase (x : OutcomeCode) (s : State) : (rxRaise x s).txBase = s.txBase := rfl
@[simp] theorem rxRaise_totalLen (x : OutcomeCode) (s : State) : (rxRaise x s).totalLen = s.totalLen := rfl
@[simp] theorem rxRaise_sent (x : OutcomeCode) (s : State) : (rxRaise x s).sent = s.sent := rfl
@[simp] theorem rxRaise_expect (x : OutcomeCode) (s : State) : (rxRaise x s).expect = s.expect := rfl
@[simp] theorem rxRaise_chunkRem (x : OutcomeCode) (s : State) : (rxRaise x s).chunkRem = s.chunkRem := rfl
@[simp] theorem rxRaise_wd (x : OutcomeCode) (s : State) : (rxRaise x s).wd = s.wd := rfl
@[simp] theorem rxRaise_txOutcome (x : OutcomeCode) (s : State) : (rxRaise x s).txOutcome = s.txOutcome := rfl
@[simp] theorem rxRaise_txInfo (x : OutcomeCode) (s : State) : (rxRaise x s).txInfo = s.txInfo := rfl
@[simp] theorem rxRaise_alState (x : OutcomeCode) (s : State) : (rxRaise x s).alState = s.alState := rfl
@[simp] theorem rxRaise_alCnt (x : OutcomeCode) (s : State) : (rxRaise x s).alCnt = s.alCnt := rfl
@[simp] theorem rxRaise_alHdr (x : OutcomeCode) (s : State) : (rxRaise x s).alHdr = s.alHdr := rfl
@[simp] theorem rxRaise_aqOvf (x : OutcomeCode) (s : State) : (rxRaise x s).aqOvf = s.aqOvf := rfl
@[simp] theorem rxRaise_alLinkErr (x : OutcomeCode) (s : State) : (rxRaise x s).alLinkErr = s.alLinkErr := rfl
@[simp] theorem rxRaise_rxState (x : OutcomeCode) (s : State) : (rxRaise x s).rxState = .error := rfl
@[simp] theorem rxRaise_rxCnt (x : OutcomeCode) (s : State) : (rxRaise x s).rxCnt = s.rxCnt := rfl
@[simp] theorem rxRaise_rxHdr (x : OutcomeCode) (s : State) : (rxRaise x s).rxHdr = s.rxHdr := rfl
@[simp] theorem rxRaise_rxTag (x : OutcomeCode) (s : State) : (rxRaise x s).rxTag = s.rxTag := rfl
@[simp] theorem rxRaise_rxParams (x : OutcomeCode) (s : State) : (rxRaise x s).rxParams = s.rxParams := rfl
@[simp] theorem rxRaise_rxLen (x : OutcomeCode) (s : State) : (rxRaise x s).rxLen = s.rxLen := rfl
@[simp] theorem rxRaise_rxGot (x : OutcomeCode) (s : State) : (rxRaise x s).rxGot = s.rxGot := rfl
@[simp] theorem rxRaise_rxWd (x : OutcomeCode) (s : State) : (rxRaise x s).rxWd = s.rxWd := rfl
@[simp] theorem rxRaise_rxOutcome (x : OutcomeCode) (s : State) : (rxRaise x s).rxOutcome = x := rfl
@[simp] theorem rxRaise_errOut (x : OutcomeCode) (s : State) : (rxRaise x s).errOut = s.errOut := rfl
@[simp] theorem rxRaise_errRet (x : OutcomeCode) (s : State) : (rxRaise x s).errRet = s.errRet := rfl
@[simp] theorem rxRaise_errInb (x : OutcomeCode) (s : State) : (rxRaise x s).errInb = s.errInb := rfl
@[simp] theorem rxRaise_aq (x : OutcomeCode) (s : State) : (rxRaise x s).aq = s.aq := rfl
@[simp] theorem rxRaise_mem (x : OutcomeCode) (s : State) : (rxRaise x s).mem = s.mem := rfl
@[simp] theorem rxRaise_rxbuf (x : OutcomeCode) (s : State) : (rxRaise x s).rxbuf = s.rxbuf := rfl
@[simp] theorem rxRaise_out (x : OutcomeCode) (s : State) : (rxRaise x s).out = s.out := rfl
@[simp] theorem rxRaise_ret (x : OutcomeCode) (s : State) : (rxRaise x s).ret = s.ret := rfl
@[simp] theorem rxRaise_inb (x : OutcomeCode) (s : State) : (rxRaise x s).inb = s.inb := rfl
@[simp] theorem rxRaise_diag (x : OutcomeCode) (s : State) : (rxRaise x s).diag = s.diag := rfl
@[simp] theorem rxRaise_log (x : OutcomeCode) (s : State) : (rxRaise x s).log = s.log := rfl
@[simp] theorem rxRaise_dlv (x : OutcomeCode) (s : State) : (rxRaise x s).dlv = s.dlv := rfl
@[simp] theorem rxRaise_evt (x : OutcomeCode) (s : State) :
    (rxRaise x s).evt = s.evt ++ [.rxErr x s.rxTag s.rxParams s.rxGot] := rfl
@[simp] theorem rxRaise_cfg (x : OutcomeCode) (s : State) : (rxRaise x s).cfg = s.cfg := rfl
@[simp] theorem rxRaise_result (x : OutcomeCode) (s : State) : (rxRaise x s).result = s.result := rfl
@[simp] theorem rxRaise_epoch (x : OutcomeCode) (s : State) : (rxRaise x s).epoch = s.epoch := rfl
@[simp] theorem rxRaise_agenda (x : OutcomeCode) (s : State) : (rxRaise x s).agenda = s.agenda := rfl

/-! ### `rxResume`: RX.RESTART's way back (R251) -/

@[simp] theorem rxResume_txState (s : State) : (rxResume s).txState = s.txState := rfl
@[simp] theorem rxResume_txIdx (s : State) : (rxResume s).txIdx = s.txIdx := rfl
@[simp] theorem rxResume_txTag (s : State) : (rxResume s).txTag = s.txTag := rfl
@[simp] theorem rxResume_txParams (s : State) : (rxResume s).txParams = s.txParams := rfl
@[simp] theorem rxResume_txBase (s : State) : (rxResume s).txBase = s.txBase := rfl
@[simp] theorem rxResume_totalLen (s : State) : (rxResume s).totalLen = s.totalLen := rfl
@[simp] theorem rxResume_sent (s : State) : (rxResume s).sent = s.sent := rfl
@[simp] theorem rxResume_expect (s : State) : (rxResume s).expect = s.expect := rfl
@[simp] theorem rxResume_chunkRem (s : State) : (rxResume s).chunkRem = s.chunkRem := rfl
@[simp] theorem rxResume_wd (s : State) : (rxResume s).wd = s.wd := rfl
@[simp] theorem rxResume_txOutcome (s : State) : (rxResume s).txOutcome = s.txOutcome := rfl
@[simp] theorem rxResume_txInfo (s : State) : (rxResume s).txInfo = s.txInfo := rfl
@[simp] theorem rxResume_alState (s : State) : (rxResume s).alState = s.alState := rfl
@[simp] theorem rxResume_alCnt (s : State) : (rxResume s).alCnt = s.alCnt := rfl
@[simp] theorem rxResume_alHdr (s : State) : (rxResume s).alHdr = s.alHdr := rfl
@[simp] theorem rxResume_aqOvf (s : State) : (rxResume s).aqOvf = s.aqOvf := rfl
@[simp] theorem rxResume_alLinkErr (s : State) : (rxResume s).alLinkErr = s.alLinkErr := rfl
@[simp] theorem rxResume_rxState (s : State) : (rxResume s).rxState = .hdr := rfl
@[simp] theorem rxResume_rxCnt (s : State) : (rxResume s).rxCnt = 0 := rfl
@[simp] theorem rxResume_rxHdr (s : State) : (rxResume s).rxHdr = s.rxHdr := rfl
@[simp] theorem rxResume_rxTag (s : State) : (rxResume s).rxTag = s.rxTag := rfl
@[simp] theorem rxResume_rxParams (s : State) : (rxResume s).rxParams = s.rxParams := rfl
@[simp] theorem rxResume_rxLen (s : State) : (rxResume s).rxLen = 0 := rfl
@[simp] theorem rxResume_rxGot (s : State) : (rxResume s).rxGot = 0 := rfl
@[simp] theorem rxResume_rxWd (s : State) : (rxResume s).rxWd = s.rxWd := rfl
@[simp] theorem rxResume_rxOutcome (s : State) : (rxResume s).rxOutcome = .none := rfl
@[simp] theorem rxResume_errOut (s : State) : (rxResume s).errOut = s.errOut := rfl
@[simp] theorem rxResume_errRet (s : State) : (rxResume s).errRet = s.errRet := rfl
@[simp] theorem rxResume_errInb (s : State) : (rxResume s).errInb = s.errInb := rfl
@[simp] theorem rxResume_aq (s : State) : (rxResume s).aq = s.aq := rfl
@[simp] theorem rxResume_mem (s : State) : (rxResume s).mem = s.mem := rfl
@[simp] theorem rxResume_rxbuf (s : State) : (rxResume s).rxbuf = s.rxbuf := rfl
@[simp] theorem rxResume_out (s : State) : (rxResume s).out = s.out := rfl
@[simp] theorem rxResume_ret (s : State) : (rxResume s).ret = s.ret := rfl
@[simp] theorem rxResume_inb (s : State) : (rxResume s).inb = s.inb := rfl
@[simp] theorem rxResume_diag (s : State) : (rxResume s).diag = s.diag := rfl
@[simp] theorem rxResume_log (s : State) : (rxResume s).log = s.log := rfl
@[simp] theorem rxResume_dlv (s : State) : (rxResume s).dlv = s.dlv := rfl
@[simp] theorem rxResume_evt (s : State) : (rxResume s).evt = s.evt := rfl
@[simp] theorem rxResume_cfg (s : State) : (rxResume s).cfg = s.cfg := rfl
@[simp] theorem rxResume_result (s : State) : (rxResume s).result = s.result := rfl
@[simp] theorem rxResume_epoch (s : State) : (rxResume s).epoch = s.epoch := rfl
@[simp] theorem rxResume_agenda (s : State) : (rxResume s).agenda = s.agenda := rfl

/-! ### `txLoad`: The session loaded anew (R191) -/

@[simp] theorem txLoad_txState (tag : Byte) (params : Params) (base : U32) (len : Nat) (s : State) :
    (txLoad tag params base len s).txState = s.txState := rfl
@[simp] theorem txLoad_txIdx (tag : Byte) (params : Params) (base : U32) (len : Nat) (s : State) :
    (txLoad tag params base len s).txIdx = 0 := rfl
@[simp] theorem txLoad_txTag (tag : Byte) (params : Params) (base : U32) (len : Nat) (s : State) :
    (txLoad tag params base len s).txTag = tag := rfl
@[simp] theorem txLoad_txParams (tag : Byte) (params : Params) (base : U32) (len : Nat) (s : State) :
    (txLoad tag params base len s).txParams = params := rfl
@[simp] theorem txLoad_txBase (tag : Byte) (params : Params) (base : U32) (len : Nat) (s : State) :
    (txLoad tag params base len s).txBase = base := rfl
@[simp] theorem txLoad_totalLen (tag : Byte) (params : Params) (base : U32) (len : Nat) (s : State) :
    (txLoad tag params base len s).totalLen = BitVec.ofNat 32 len := rfl
@[simp] theorem txLoad_sent (tag : Byte) (params : Params) (base : U32) (len : Nat) (s : State) :
    (txLoad tag params base len s).sent = 0 := rfl
@[simp] theorem txLoad_expect (tag : Byte) (params : Params) (base : U32) (len : Nat) (s : State) :
    (txLoad tag params base len s).expect = 0 := rfl
@[simp] theorem txLoad_chunkRem (tag : Byte) (params : Params) (base : U32) (len : Nat) (s : State) :
    (txLoad tag params base len s).chunkRem = 0 := rfl
@[simp] theorem txLoad_wd (tag : Byte) (params : Params) (base : U32) (len : Nat) (s : State) :
    (txLoad tag params base len s).wd = 0 := rfl
@[simp] theorem txLoad_txOutcome (tag : Byte) (params : Params) (base : U32) (len : Nat) (s : State) :
    (txLoad tag params base len s).txOutcome = .none := rfl
@[simp] theorem txLoad_txInfo (tag : Byte) (params : Params) (base : U32) (len : Nat) (s : State) :
    (txLoad tag params base len s).txInfo = .val 0 := rfl
@[simp] theorem txLoad_alState (tag : Byte) (params : Params) (base : U32) (len : Nat) (s : State) :
    (txLoad tag params base len s).alState = s.alState := rfl
@[simp] theorem txLoad_alCnt (tag : Byte) (params : Params) (base : U32) (len : Nat) (s : State) :
    (txLoad tag params base len s).alCnt = s.alCnt := rfl
@[simp] theorem txLoad_alHdr (tag : Byte) (params : Params) (base : U32) (len : Nat) (s : State) :
    (txLoad tag params base len s).alHdr = s.alHdr := rfl
@[simp] theorem txLoad_aqOvf (tag : Byte) (params : Params) (base : U32) (len : Nat) (s : State) :
    (txLoad tag params base len s).aqOvf = s.aqOvf := rfl
@[simp] theorem txLoad_alLinkErr (tag : Byte) (params : Params) (base : U32) (len : Nat) (s : State) :
    (txLoad tag params base len s).alLinkErr = s.alLinkErr := rfl
@[simp] theorem txLoad_rxState (tag : Byte) (params : Params) (base : U32) (len : Nat) (s : State) :
    (txLoad tag params base len s).rxState = s.rxState := rfl
@[simp] theorem txLoad_rxCnt (tag : Byte) (params : Params) (base : U32) (len : Nat) (s : State) :
    (txLoad tag params base len s).rxCnt = s.rxCnt := rfl
@[simp] theorem txLoad_rxHdr (tag : Byte) (params : Params) (base : U32) (len : Nat) (s : State) :
    (txLoad tag params base len s).rxHdr = s.rxHdr := rfl
@[simp] theorem txLoad_rxTag (tag : Byte) (params : Params) (base : U32) (len : Nat) (s : State) :
    (txLoad tag params base len s).rxTag = s.rxTag := rfl
@[simp] theorem txLoad_rxParams (tag : Byte) (params : Params) (base : U32) (len : Nat) (s : State) :
    (txLoad tag params base len s).rxParams = s.rxParams := rfl
@[simp] theorem txLoad_rxLen (tag : Byte) (params : Params) (base : U32) (len : Nat) (s : State) :
    (txLoad tag params base len s).rxLen = s.rxLen := rfl
@[simp] theorem txLoad_rxGot (tag : Byte) (params : Params) (base : U32) (len : Nat) (s : State) :
    (txLoad tag params base len s).rxGot = s.rxGot := rfl
@[simp] theorem txLoad_rxWd (tag : Byte) (params : Params) (base : U32) (len : Nat) (s : State) :
    (txLoad tag params base len s).rxWd = s.rxWd := rfl
@[simp] theorem txLoad_rxOutcome (tag : Byte) (params : Params) (base : U32) (len : Nat) (s : State) :
    (txLoad tag params base len s).rxOutcome = s.rxOutcome := rfl
@[simp] theorem txLoad_errOut (tag : Byte) (params : Params) (base : U32) (len : Nat) (s : State) :
    (txLoad tag params base len s).errOut = s.errOut := rfl
@[simp] theorem txLoad_errRet (tag : Byte) (params : Params) (base : U32) (len : Nat) (s : State) :
    (txLoad tag params base len s).errRet = s.errRet := rfl
@[simp] theorem txLoad_errInb (tag : Byte) (params : Params) (base : U32) (len : Nat) (s : State) :
    (txLoad tag params base len s).errInb = s.errInb := rfl
@[simp] theorem txLoad_aq (tag : Byte) (params : Params) (base : U32) (len : Nat) (s : State) :
    (txLoad tag params base len s).aq = [] := rfl
@[simp] theorem txLoad_mem (tag : Byte) (params : Params) (base : U32) (len : Nat) (s : State) :
    (txLoad tag params base len s).mem = s.mem := rfl
@[simp] theorem txLoad_rxbuf (tag : Byte) (params : Params) (base : U32) (len : Nat) (s : State) :
    (txLoad tag params base len s).rxbuf = s.rxbuf := rfl
@[simp] theorem txLoad_out (tag : Byte) (params : Params) (base : U32) (len : Nat) (s : State) :
    (txLoad tag params base len s).out = s.out := rfl
@[simp] theorem txLoad_ret (tag : Byte) (params : Params) (base : U32) (len : Nat) (s : State) :
    (txLoad tag params base len s).ret = s.ret := rfl
@[simp] theorem txLoad_inb (tag : Byte) (params : Params) (base : U32) (len : Nat) (s : State) :
    (txLoad tag params base len s).inb = s.inb := rfl
@[simp] theorem txLoad_diag (tag : Byte) (params : Params) (base : U32) (len : Nat) (s : State) :
    (txLoad tag params base len s).diag = s.diag := rfl
@[simp] theorem txLoad_log (tag : Byte) (params : Params) (base : U32) (len : Nat) (s : State) :
    (txLoad tag params base len s).log = s.log := rfl
@[simp] theorem txLoad_dlv (tag : Byte) (params : Params) (base : U32) (len : Nat) (s : State) :
    (txLoad tag params base len s).dlv = s.dlv := rfl
@[simp] theorem txLoad_evt (tag : Byte) (params : Params) (base : U32) (len : Nat) (s : State) :
    (txLoad tag params base len s).evt = s.evt := rfl
@[simp] theorem txLoad_cfg (tag : Byte) (params : Params) (base : U32) (len : Nat) (s : State) :
    (txLoad tag params base len s).cfg = s.cfg := rfl
@[simp] theorem txLoad_result (tag : Byte) (params : Params) (base : U32) (len : Nat) (s : State) :
    (txLoad tag params base len s).result = s.result := rfl
@[simp] theorem txLoad_epoch (tag : Byte) (params : Params) (base : U32) (len : Nat) (s : State) :
    (txLoad tag params base len s).epoch = s.epoch := rfl
@[simp] theorem txLoad_agenda (tag : Byte) (params : Params) (base : U32) (len : Nat) (s : State) :
    (txLoad tag params base len s).agenda = s.agenda := rfl

/-! ### `txNextChunk`: The next chunk (R197, R204) -/

@[simp] theorem txNextChunk_txState (s : State) : (txNextChunk s).txState = .chunkSend := rfl
@[simp] theorem txNextChunk_txIdx (s : State) : (txNextChunk s).txIdx = s.txIdx := rfl
@[simp] theorem txNextChunk_txTag (s : State) : (txNextChunk s).txTag = s.txTag := rfl
@[simp] theorem txNextChunk_txParams (s : State) : (txNextChunk s).txParams = s.txParams := rfl
@[simp] theorem txNextChunk_txBase (s : State) : (txNextChunk s).txBase = s.txBase := rfl
@[simp] theorem txNextChunk_totalLen (s : State) : (txNextChunk s).totalLen = s.totalLen := rfl
@[simp] theorem txNextChunk_sent (s : State) : (txNextChunk s).sent = s.sent := rfl
@[simp] theorem txNextChunk_expect (s : State) : (txNextChunk s).expect = s.expect := rfl
@[simp] theorem txNextChunk_chunkRem (s : State) : (txNextChunk s).chunkRem = nextChunk s := rfl
@[simp] theorem txNextChunk_wd (s : State) : (txNextChunk s).wd = s.wd := rfl
@[simp] theorem txNextChunk_txOutcome (s : State) : (txNextChunk s).txOutcome = s.txOutcome := rfl
@[simp] theorem txNextChunk_txInfo (s : State) : (txNextChunk s).txInfo = s.txInfo := rfl
@[simp] theorem txNextChunk_alState (s : State) : (txNextChunk s).alState = s.alState := rfl
@[simp] theorem txNextChunk_alCnt (s : State) : (txNextChunk s).alCnt = s.alCnt := rfl
@[simp] theorem txNextChunk_alHdr (s : State) : (txNextChunk s).alHdr = s.alHdr := rfl
@[simp] theorem txNextChunk_aqOvf (s : State) : (txNextChunk s).aqOvf = s.aqOvf := rfl
@[simp] theorem txNextChunk_alLinkErr (s : State) : (txNextChunk s).alLinkErr = s.alLinkErr := rfl
@[simp] theorem txNextChunk_rxState (s : State) : (txNextChunk s).rxState = s.rxState := rfl
@[simp] theorem txNextChunk_rxCnt (s : State) : (txNextChunk s).rxCnt = s.rxCnt := rfl
@[simp] theorem txNextChunk_rxHdr (s : State) : (txNextChunk s).rxHdr = s.rxHdr := rfl
@[simp] theorem txNextChunk_rxTag (s : State) : (txNextChunk s).rxTag = s.rxTag := rfl
@[simp] theorem txNextChunk_rxParams (s : State) : (txNextChunk s).rxParams = s.rxParams := rfl
@[simp] theorem txNextChunk_rxLen (s : State) : (txNextChunk s).rxLen = s.rxLen := rfl
@[simp] theorem txNextChunk_rxGot (s : State) : (txNextChunk s).rxGot = s.rxGot := rfl
@[simp] theorem txNextChunk_rxWd (s : State) : (txNextChunk s).rxWd = s.rxWd := rfl
@[simp] theorem txNextChunk_rxOutcome (s : State) : (txNextChunk s).rxOutcome = s.rxOutcome := rfl
@[simp] theorem txNextChunk_errOut (s : State) : (txNextChunk s).errOut = s.errOut := rfl
@[simp] theorem txNextChunk_errRet (s : State) : (txNextChunk s).errRet = s.errRet := rfl
@[simp] theorem txNextChunk_errInb (s : State) : (txNextChunk s).errInb = s.errInb := rfl
@[simp] theorem txNextChunk_aq (s : State) : (txNextChunk s).aq = s.aq := rfl
@[simp] theorem txNextChunk_mem (s : State) : (txNextChunk s).mem = s.mem := rfl
@[simp] theorem txNextChunk_rxbuf (s : State) : (txNextChunk s).rxbuf = s.rxbuf := rfl
@[simp] theorem txNextChunk_out (s : State) : (txNextChunk s).out = s.out := rfl
@[simp] theorem txNextChunk_ret (s : State) : (txNextChunk s).ret = s.ret := rfl
@[simp] theorem txNextChunk_inb (s : State) : (txNextChunk s).inb = s.inb := rfl
@[simp] theorem txNextChunk_diag (s : State) : (txNextChunk s).diag = s.diag := rfl
@[simp] theorem txNextChunk_log (s : State) : (txNextChunk s).log = s.log := rfl
@[simp] theorem txNextChunk_dlv (s : State) : (txNextChunk s).dlv = s.dlv := rfl
@[simp] theorem txNextChunk_evt (s : State) : (txNextChunk s).evt = s.evt := rfl
@[simp] theorem txNextChunk_cfg (s : State) : (txNextChunk s).cfg = s.cfg := rfl
@[simp] theorem txNextChunk_result (s : State) : (txNextChunk s).result = s.result := rfl
@[simp] theorem txNextChunk_epoch (s : State) : (txNextChunk s).epoch = s.epoch := rfl
@[simp] theorem txNextChunk_agenda (s : State) : (txNextChunk s).agenda = s.agenda := rfl

/-! ### `alLogHeader`: Log and drop (R175, R176) -/

@[simp] theorem alLogHeader_txState (s : State) : (alLogHeader s).txState = s.txState := rfl
@[simp] theorem alLogHeader_txIdx (s : State) : (alLogHeader s).txIdx = s.txIdx := rfl
@[simp] theorem alLogHeader_txTag (s : State) : (alLogHeader s).txTag = s.txTag := rfl
@[simp] theorem alLogHeader_txParams (s : State) : (alLogHeader s).txParams = s.txParams := rfl
@[simp] theorem alLogHeader_txBase (s : State) : (alLogHeader s).txBase = s.txBase := rfl
@[simp] theorem alLogHeader_totalLen (s : State) : (alLogHeader s).totalLen = s.totalLen := rfl
@[simp] theorem alLogHeader_sent (s : State) : (alLogHeader s).sent = s.sent := rfl
@[simp] theorem alLogHeader_expect (s : State) : (alLogHeader s).expect = s.expect := rfl
@[simp] theorem alLogHeader_chunkRem (s : State) : (alLogHeader s).chunkRem = s.chunkRem := rfl
@[simp] theorem alLogHeader_wd (s : State) : (alLogHeader s).wd = s.wd := rfl
@[simp] theorem alLogHeader_txOutcome (s : State) : (alLogHeader s).txOutcome = s.txOutcome := rfl
@[simp] theorem alLogHeader_txInfo (s : State) : (alLogHeader s).txInfo = s.txInfo := rfl
@[simp] theorem alLogHeader_alState (s : State) : (alLogHeader s).alState = s.alState := rfl
@[simp] theorem alLogHeader_alCnt (s : State) : (alLogHeader s).alCnt = s.alCnt := rfl
@[simp] theorem alLogHeader_alHdr (s : State) : (alLogHeader s).alHdr = s.alHdr := rfl
@[simp] theorem alLogHeader_aqOvf (s : State) : (alLogHeader s).aqOvf = s.aqOvf := rfl
@[simp] theorem alLogHeader_alLinkErr (s : State) : (alLogHeader s).alLinkErr = s.alLinkErr := rfl
@[simp] theorem alLogHeader_rxState (s : State) : (alLogHeader s).rxState = s.rxState := rfl
@[simp] theorem alLogHeader_rxCnt (s : State) : (alLogHeader s).rxCnt = s.rxCnt := rfl
@[simp] theorem alLogHeader_rxHdr (s : State) : (alLogHeader s).rxHdr = s.rxHdr := rfl
@[simp] theorem alLogHeader_rxTag (s : State) : (alLogHeader s).rxTag = s.rxTag := rfl
@[simp] theorem alLogHeader_rxParams (s : State) : (alLogHeader s).rxParams = s.rxParams := rfl
@[simp] theorem alLogHeader_rxLen (s : State) : (alLogHeader s).rxLen = s.rxLen := rfl
@[simp] theorem alLogHeader_rxGot (s : State) : (alLogHeader s).rxGot = s.rxGot := rfl
@[simp] theorem alLogHeader_rxWd (s : State) : (alLogHeader s).rxWd = s.rxWd := rfl
@[simp] theorem alLogHeader_rxOutcome (s : State) : (alLogHeader s).rxOutcome = s.rxOutcome := rfl
@[simp] theorem alLogHeader_errOut (s : State) : (alLogHeader s).errOut = s.errOut := rfl
@[simp] theorem alLogHeader_errRet (s : State) : (alLogHeader s).errRet = s.errRet := rfl
@[simp] theorem alLogHeader_errInb (s : State) : (alLogHeader s).errInb = s.errInb := rfl
@[simp] theorem alLogHeader_aq (s : State) : (alLogHeader s).aq = s.aq := rfl
@[simp] theorem alLogHeader_mem (s : State) : (alLogHeader s).mem = s.mem := rfl
@[simp] theorem alLogHeader_rxbuf (s : State) : (alLogHeader s).rxbuf = s.rxbuf := rfl
@[simp] theorem alLogHeader_out (s : State) : (alLogHeader s).out = s.out := rfl
@[simp] theorem alLogHeader_ret (s : State) : (alLogHeader s).ret = s.ret := rfl
@[simp] theorem alLogHeader_inb (s : State) : (alLogHeader s).inb = s.inb := rfl
@[simp] theorem alLogHeader_diag (s : State) : (alLogHeader s).diag = s.diag := rfl
@[simp] theorem alLogHeader_log (s : State) : (alLogHeader s).log = s.log ++ [⟨s.alHdr.h0, s.alHdr.params⟩] := rfl
@[simp] theorem alLogHeader_dlv (s : State) : (alLogHeader s).dlv = s.dlv := rfl
@[simp] theorem alLogHeader_evt (s : State) : (alLogHeader s).evt = s.evt := rfl
@[simp] theorem alLogHeader_cfg (s : State) : (alLogHeader s).cfg = s.cfg := rfl
@[simp] theorem alLogHeader_result (s : State) : (alLogHeader s).result = s.result := rfl
@[simp] theorem alLogHeader_epoch (s : State) : (alLogHeader s).epoch = s.epoch := rfl
@[simp] theorem alLogHeader_agenda (s : State) : (alLogHeader s).agenda = s.agenda := rfl

end Sys2Proof.Machine
end

