-- ==== Sys2Proof/Laws/Memory.lean ====
section
/-! SUPPORT. The byte memories (spec/20_memory.md R51): a read after a write, other addresses, and that every operation keeps the
canonical form. -/

namespace Sys2Proof.Machine

/-! ### One byte -/

/-- What a canonical list holds at an address below its first is nothing. -/
theorem Memory.read?_eq_none_of_lt : ∀ (m : Memory) (a : Nat), (∀ c ∈ m, a < c.1) → Memory.read? m a = none
  | [], _, _ => rfl
  | (k, b) :: rest, a, h => by
    have hk : a < k := h (k, b) (by simp)
    rw [Memory.read?, if_neg (by omega)]
    exact Memory.read?_eq_none_of_lt rest a fun c hc => h c (by simp [hc])

/-- A read after a write to the same address gives the byte written (R51). -/
@[simp] theorem Memory.read?_write_self : ∀ (m : Memory) (a : Nat) (b : Byte),
    Memory.read? (Memory.write m a b) a = some b
  | [], a, b => by simp [Memory.write, Memory.read?]
  | (k, c) :: rest, a, b => by
    by_cases h1 : a < k
    · simp [Memory.write, Memory.read?, h1]
    · by_cases h2 : a = k
      · simp [Memory.write, Memory.read?, h2]
      · have h3 : k ≠ a := fun h => h2 h.symm
        simp [Memory.write, Memory.read?, h1, h2, h3, Memory.read?_write_self rest a b]

/-- A write leaves every other address alone (R51). -/
theorem Memory.read?_write_of_ne : ∀ (m : Memory) (a x : Nat) (b : Byte), x ≠ a →
    Memory.read? (Memory.write m a b) x = Memory.read? m x
  | [], a, x, b, h => by simp [Memory.write, Memory.read?, h.symm]
  | (k, c) :: rest, a, x, b, h => by
    by_cases h1 : a < k
    · simp [Memory.write, Memory.read?, h1, h.symm]
    · by_cases h2 : a = k
      · subst h2
        simp [Memory.write, Memory.read?, h.symm]
      · simp only [Memory.write, if_neg h1, if_neg h2, Memory.read?]
        rw [Memory.read?_write_of_ne rest a x b h]

/-- The addresses of a written list are the old ones and the written one. -/
theorem Memory.mem_write : ∀ (m : Memory) (a : Nat) (b : Byte) (c : Host.Cell),
    c ∈ Memory.write m a b → c = (a, b) ∨ c ∈ m
  | [], a, b, c, h => by simpa [Memory.write] using h
  | (k, d) :: rest, a, b, c, h => by
    by_cases h1 : a < k
    · simpa [Memory.write, h1] using h
    · by_cases h2 : a = k
      · simp only [Memory.write, if_neg h1, if_pos h2, List.mem_cons] at h ⊢
        rcases h with h | h
        · exact .inl h
        · exact .inr (.inr h)
      · simp only [Memory.write, if_neg h1, if_neg h2, List.mem_cons] at h ⊢
        rcases h with h | h
        · exact .inr (.inl h)
        · exact (Memory.mem_write rest a b c h).imp_right .inr

/-- A write keeps the canonical form. -/
theorem Memory.wf_write : ∀ (m : Memory) (a : Nat) (b : Byte), Memory.wf m → Memory.wf (Memory.write m a b)
  | [], a, b, _ => by simp [Memory.wf, Memory.write]
  | (k, d) :: rest, a, b, h => by
    have hr : Memory.wf rest := (List.pairwise_cons.mp h).2
    have hk : ∀ c ∈ rest, k < c.1 := fun c hc => (List.pairwise_cons.mp h).1 c hc
    by_cases h1 : a < k
    · simp only [Memory.write, if_pos h1]
      refine List.pairwise_cons.mpr ⟨fun c hc => ?_, h⟩
      rcases List.mem_cons.mp hc with rfl | hc
      · exact h1
      · exact Nat.lt_trans h1 (hk c hc)
    · by_cases h2 : a = k
      · simp only [Memory.write, if_neg h1, if_pos h2]
        exact List.pairwise_cons.mpr ⟨fun c hc => h2 ▸ hk c hc, hr⟩
      · simp only [Memory.write, if_neg h1, if_neg h2]
        refine List.pairwise_cons.mpr ⟨fun c hc => ?_, Memory.wf_write rest a b hr⟩
        rcases Memory.mem_write rest a b c hc with rfl | hc
        · show k < a
          omega
        · exact hk c hc

/-! ### A sequence of bytes -/

/-- A sequence written at `a` leaves every address outside it alone (R51). -/
theorem Memory.read?_writeSeq_of_lt_or_le : ∀ (m : Memory) (a x : Nat) (bs : List Byte),
    x < a ∨ a + bs.length ≤ x → Memory.read? (Memory.writeSeq m a bs) x = Memory.read? m x
  | _, _, _, [], _ => rfl
  | m, a, x, b :: bs, h => by
    simp only [List.length_cons] at h
    rw [Memory.writeSeq, Memory.read?_writeSeq_of_lt_or_le _ _ _ bs (by omega),
      Memory.read?_write_of_ne _ _ _ _ (by omega)]

/-- Byte j of a written sequence is read at `a + j` (R51). -/
theorem Memory.read?_writeSeq : ∀ (m : Memory) (a j : Nat) (bs : List Byte), j < bs.length →
    Memory.read? (Memory.writeSeq m a bs) (a + j) = bs[j]?
  | _, _, _, [], h => by simp at h
  | m, a, 0, b :: bs, _ => by
    rw [Memory.writeSeq, Memory.read?_writeSeq_of_lt_or_le _ _ _ bs (by omega)]
    simp
  | m, a, j + 1, b :: bs, h => by
    have h' : j < bs.length := by simpa using h
    rw [Memory.writeSeq, show a + (j + 1) = (a + 1) + j by omega, Memory.read?_writeSeq _ _ _ bs h']
    simp

/-- A sequence write keeps the canonical form. -/
theorem Memory.wf_writeSeq : ∀ (m : Memory) (a : Nat) (bs : List Byte), Memory.wf m →
    Memory.wf (Memory.writeSeq m a bs)
  | _, _, [], h => h
  | m, a, b :: bs, h => Memory.wf_writeSeq _ _ bs (Memory.wf_write m a b h)

/-- The addresses of a sequence write: the old ones and the written ones. -/
theorem Memory.mem_writeSeq : ∀ (m : Memory) (a : Nat) (bs : List Byte) (c : Host.Cell),
    c ∈ Memory.writeSeq m a bs → (a ≤ c.1 ∧ c.1 < a + bs.length) ∨ c ∈ m
  | _, _, [], _, h => .inr h
  | m, a, b :: bs, c, h => by
    simp only [List.length_cons]
    rcases Memory.mem_writeSeq _ _ bs c h with h | h
    · exact .inl ⟨by omega, by omega⟩
    · rcases Memory.mem_write m a b c h with rfl | h
      · exact .inl ⟨by simp, by simp⟩
      · exact .inr h

/-! ### MEM and RXBUF through the state -/

/-- Reading MEM after one byte was written. -/
theorem memByte_write (s : State) (a x : Nat) (b : Byte) :
    memByte { s with mem := Memory.write s.mem a b } x = if x = a then b else memByte s x := by
  by_cases h : x = a
  · subst h
    simp [memByte]
  · simp [memByte, Memory.read?_write_of_ne _ _ _ _ h, h]

/-- Reading MEM after a sequence was written. -/
theorem memByte_writeSeq (s : State) (a x : Nat) (bs : List Byte) :
    memByte { s with mem := Memory.writeSeq s.mem a bs } x =
      if h : a ≤ x ∧ x - a < bs.length then bs[x - a]'h.2 else memByte s x := by
  by_cases h : a ≤ x ∧ x - a < bs.length
  · have hr := Memory.read?_writeSeq s.mem a (x - a) bs h.2
    rw [Nat.add_sub_cancel' h.1, List.getElem?_eq_getElem h.2] at hr
    rw [dif_pos h]
    simp [memByte, hr]
  · rw [dif_neg h]
    simp only [memByte]
    rw [Memory.read?_writeSeq_of_lt_or_le _ _ _ _ (by omega)]

/-- Reading RXBUF after one byte was written. -/
theorem rxbufByte_write (s : State) (a x : Nat) (b : Byte) :
    rxbufByte { s with rxbuf := Memory.write s.rxbuf a b } x = if x = a then b else rxbufByte s x := by
  by_cases h : x = a
  · subst h
    simp [rxbufByte]
  · simp [rxbufByte, Memory.read?_write_of_ne _ _ _ _ h, h]

@[simp] theorem memSeq_length (s : State) (a n : Nat) : (memSeq s a n).length = n := by simp [memSeq]

@[simp] theorem rxbufSeq_length (s : State) (n : Nat) : (rxbufSeq s n).length = n := by simp [rxbufSeq]

/-- Byte j of a sequence read from MEM. -/
theorem memSeq_getElem? (s : State) (a n j : Nat) (h : j < n) : (memSeq s a n)[j]? = some (memByte s (a + j)) := by
  simp [memSeq, h]

/-- The memories after reset are canonical (R37): nothing is listed. -/
theorem reset_memories_wf : Memory.wf State.reset.mem ∧ Memory.wf State.reset.rxbuf := by
  simp [Memory.wf, State.reset, State.resetWith]

end Sys2Proof.Machine
end

