-- ==== Sys2Proof/Laws/Ops.lean ====
section
/-! SUPPORT. What each shared operation can do, said once: the queue, the deadline, delivery, the fifth byte, the way a step is
sequenced and dispatched, and the two ways a unit ends. -/

namespace Sys2Proof.Machine

/-! ### Sequencing and answers -/

@[simp] theorem andThen_next (s : State) (f : State → StepOutcome) : andThen (.next s) f = f s := rfl

@[simp] theorem turns_zero (turn : State → StepOutcome) (s : State) : turns 0 turn s = .next s := rfl

theorem turns_succ (n : Nat) (turn : State → StepOutcome) (s : State) :
    turns (n + 1) turn s = andThen (turn s) (turns n turn) := rfl

/-- Two steps in a row answer a state only through a state between. -/
theorem andThen_eq_next {r : StepOutcome} {f : State → StepOutcome} {t : State} (h : andThen r f = .next t) :
    ∃ u, r = .next u ∧ f u = .next t := by
  cases r with
  | next u => exact ⟨u, rfl, h⟩
  | fault e => cases h
  | refused e => cases h

/-- Two steps in a row fault where one of them does. -/
theorem andThen_eq_fault {r : StepOutcome} {f : State → StepOutcome} {e : Fault} (h : andThen r f = .fault e) :
    r = .fault e ∨ ∃ u, r = .next u ∧ f u = .fault e := by
  cases r with
  | next u => exact .inr ⟨u, rfl, h⟩
  | fault e' => exact .inl h
  | refused e' => cases h

/-- What every turn keeps, all the turns keep. -/
theorem turns_induct {turn : State → StepOutcome} (P : State → Prop)
    (step_keeps : ∀ s t, P s → turn s = .next t → P t) :
    ∀ n s t, P s → turns n turn s = .next t → P t
  | 0, s, t, hs, h => by
    cases h
    exact hs
  | n + 1, s, t, hs, h => by
    obtain ⟨u, hu, h⟩ := andThen_eq_next h
    exact turns_induct P step_keeps n u t (step_keeps s u hs hu) h

@[simp] theorem rejectCommand_eq (s : State) :
    rejectCommand s = .next { s with result := .status .cmdRejected } := rfl

@[simp] theorem acceptCommand_eq (s : State) : acceptCommand s = .next { s with result := .status .accepted } := rfl

/-! ### The AckQueue -/

/-- Room in the queue (R162). -/
theorem aqHasRoom_iff (s : State) : aqHasRoom s = true ↔ ∀ d, s.cfg.ackqDepth = some d → s.aq.length < d := by
  unfold aqHasRoom
  split <;> rename_i h
  · simp [h]
  · simp [h]

/-- AQ.ENQ with room (R162). -/
theorem aqEnq_of_room (v : Entry) (s : State) (h : aqHasRoom s = true) : aqEnq v s = { s with aq := s.aq ++ [v] } := by
  simp [aqEnq, h]

/-- AQ.ENQ on a full queue (R162). -/
theorem aqEnq_of_full (v : Entry) (s : State) (h : aqHasRoom s = false) :
    aqEnq v s = { s with aqOvf := true, evt := s.evt ++ [.aqOvf v] } := by
  simp [aqEnq, h]

/-- All that AQ.ENQ can do (R162). -/
theorem aqEnq_cases (v : Entry) (s : State) :
    (aqHasRoom s = true ∧ aqEnq v s = { s with aq := s.aq ++ [v] }) ∨
      (aqHasRoom s = false ∧ aqEnq v s = { s with aqOvf := true, evt := s.evt ++ [.aqOvf v] }) := by
  cases h : aqHasRoom s
  · exact .inr ⟨rfl, aqEnq_of_full v s h⟩
  · exact .inl ⟨rfl, aqEnq_of_room v s h⟩

@[simp] theorem aqEnq_txState (v : Entry) (s : State) : (aqEnq v s).txState = s.txState := by
  rcases aqEnq_cases v s with ⟨_, h⟩ | ⟨_, h⟩ <;> rw [h]

@[simp] theorem aqEnq_txIdx (v : Entry) (s : State) : (aqEnq v s).txIdx = s.txIdx := by
  rcases aqEnq_cases v s with ⟨_, h⟩ | ⟨_, h⟩ <;> rw [h]

@[simp] theorem aqEnq_txTag (v : Entry) (s : State) : (aqEnq v s).txTag = s.txTag := by
  rcases aqEnq_cases v s with ⟨_, h⟩ | ⟨_, h⟩ <;> rw [h]

@[simp] theorem aqEnq_txParams (v : Entry) (s : State) : (aqEnq v s).txParams = s.txParams := by
  rcases aqEnq_cases v s with ⟨_, h⟩ | ⟨_, h⟩ <;> rw [h]

@[simp] theorem aqEnq_txBase (v : Entry) (s : State) : (aqEnq v s).txBase = s.txBase := by
  rcases aqEnq_cases v s with ⟨_, h⟩ | ⟨_, h⟩ <;> rw [h]

@[simp] theorem aqEnq_totalLen (v : Entry) (s : State) : (aqEnq v s).totalLen = s.totalLen := by
  rcases aqEnq_cases v s with ⟨_, h⟩ | ⟨_, h⟩ <;> rw [h]

@[simp] theorem aqEnq_sent (v : Entry) (s : State) : (aqEnq v s).sent = s.sent := by
  rcases aqEnq_cases v s with ⟨_, h⟩ | ⟨_, h⟩ <;> rw [h]

@[simp] theorem aqEnq_expect (v : Entry) (s : State) : (aqEnq v s).expect = s.expect := by
  rcases aqEnq_cases v s with ⟨_, h⟩ | ⟨_, h⟩ <;> rw [h]

@[simp] theorem aqEnq_chunkRem (v : Entry) (s : State) : (aqEnq v s).chunkRem = s.chunkRem := by
  rcases aqEnq_cases v s with ⟨_, h⟩ | ⟨_, h⟩ <;> rw [h]

@[simp] theorem aqEnq_wd (v : Entry) (s : State) : (aqEnq v s).wd = s.wd := by
  rcases aqEnq_cases v s with ⟨_, h⟩ | ⟨_, h⟩ <;> rw [h]

@[simp] theorem aqEnq_txOutcome (v : Entry) (s : State) : (aqEnq v s).txOutcome = s.txOutcome := by
  rcases aqEnq_cases v s with ⟨_, h⟩ | ⟨_, h⟩ <;> rw [h]

@[simp] theorem aqEnq_txInfo (v : Entry) (s : State) : (aqEnq v s).txInfo = s.txInfo := by
  rcases aqEnq_cases v s with ⟨_, h⟩ | ⟨_, h⟩ <;> rw [h]

@[simp] theorem aqEnq_alState (v : Entry) (s : State) : (aqEnq v s).alState = s.alState := by
  rcases aqEnq_cases v s with ⟨_, h⟩ | ⟨_, h⟩ <;> rw [h]

@[simp] theorem aqEnq_alCnt (v : Entry) (s : State) : (aqEnq v s).alCnt = s.alCnt := by
  rcases aqEnq_cases v s with ⟨_, h⟩ | ⟨_, h⟩ <;> rw [h]

@[simp] theorem aqEnq_alHdr (v : Entry) (s : State) : (aqEnq v s).alHdr = s.alHdr := by
  rcases aqEnq_cases v s with ⟨_, h⟩ | ⟨_, h⟩ <;> rw [h]

@[simp] theorem aqEnq_alLinkErr (v : Entry) (s : State) : (aqEnq v s).alLinkErr = s.alLinkErr := by
  rcases aqEnq_cases v s with ⟨_, h⟩ | ⟨_, h⟩ <;> rw [h]

@[simp] theorem aqEnq_rxState (v : Entry) (s : State) : (aqEnq v s).rxState = s.rxState := by
  rcases aqEnq_cases v s with ⟨_, h⟩ | ⟨_, h⟩ <;> rw [h]

@[simp] theorem aqEnq_rxCnt (v : Entry) (s : State) : (aqEnq v s).rxCnt = s.rxCnt := by
  rcases aqEnq_cases v s with ⟨_, h⟩ | ⟨_, h⟩ <;> rw [h]

@[simp] theorem aqEnq_rxHdr (v : Entry) (s : State) : (aqEnq v s).rxHdr = s.rxHdr := by
  rcases aqEnq_cases v s with ⟨_, h⟩ | ⟨_, h⟩ <;> rw [h]

@[simp] theorem aqEnq_rxTag (v : Entry) (s : State) : (aqEnq v s).rxTag = s.rxTag := by
  rcases aqEnq_cases v s with ⟨_, h⟩ | ⟨_, h⟩ <;> rw [h]

@[simp] theorem aqEnq_rxParams (v : Entry) (s : State) : (aqEnq v s).rxParams = s.rxParams := by
  rcases aqEnq_cases v s with ⟨_, h⟩ | ⟨_, h⟩ <;> rw [h]

@[simp] theorem aqEnq_rxLen (v : Entry) (s : State) : (aqEnq v s).rxLen = s.rxLen := by
  rcases aqEnq_cases v s with ⟨_, h⟩ | ⟨_, h⟩ <;> rw [h]

@[simp] theorem aqEnq_rxGot (v : Entry) (s : State) : (aqEnq v s).rxGot = s.rxGot := by
  rcases aqEnq_cases v s with ⟨_, h⟩ | ⟨_, h⟩ <;> rw [h]

@[simp] theorem aqEnq_rxWd (v : Entry) (s : State) : (aqEnq v s).rxWd = s.rxWd := by
  rcases aqEnq_cases v s with ⟨_, h⟩ | ⟨_, h⟩ <;> rw [h]

@[simp] theorem aqEnq_rxOutcome (v : Entry) (s : State) : (aqEnq v s).rxOutcome = s.rxOutcome := by
  rcases aqEnq_cases v s with ⟨_, h⟩ | ⟨_, h⟩ <;> rw [h]

@[simp] theorem aqEnq_errOut (v : Entry) (s : State) : (aqEnq v s).errOut = s.errOut := by
  rcases aqEnq_cases v s with ⟨_, h⟩ | ⟨_, h⟩ <;> rw [h]

@[simp] theorem aqEnq_errRet (v : Entry) (s : State) : (aqEnq v s).errRet = s.errRet := by
  rcases aqEnq_cases v s with ⟨_, h⟩ | ⟨_, h⟩ <;> rw [h]

@[simp] theorem aqEnq_errInb (v : Entry) (s : State) : (aqEnq v s).errInb = s.errInb := by
  rcases aqEnq_cases v s with ⟨_, h⟩ | ⟨_, h⟩ <;> rw [h]

@[simp] theorem aqEnq_mem (v : Entry) (s : State) : (aqEnq v s).mem = s.mem := by
  rcases aqEnq_cases v s with ⟨_, h⟩ | ⟨_, h⟩ <;> rw [h]

@[simp] theorem aqEnq_rxbuf (v : Entry) (s : State) : (aqEnq v s).rxbuf = s.rxbuf := by
  rcases aqEnq_cases v s with ⟨_, h⟩ | ⟨_, h⟩ <;> rw [h]

@[simp] theorem aqEnq_out (v : Entry) (s : State) : (aqEnq v s).out = s.out := by
  rcases aqEnq_cases v s with ⟨_, h⟩ | ⟨_, h⟩ <;> rw [h]

@[simp] theorem aqEnq_ret (v : Entry) (s : State) : (aqEnq v s).ret = s.ret := by
  rcases aqEnq_cases v s with ⟨_, h⟩ | ⟨_, h⟩ <;> rw [h]

@[simp] theorem aqEnq_inb (v : Entry) (s : State) : (aqEnq v s).inb = s.inb := by
  rcases aqEnq_cases v s with ⟨_, h⟩ | ⟨_, h⟩ <;> rw [h]

@[simp] theorem aqEnq_diag (v : Entry) (s : State) : (aqEnq v s).diag = s.diag := by
  rcases aqEnq_cases v s with ⟨_, h⟩ | ⟨_, h⟩ <;> rw [h]

@[simp] theorem aqEnq_log (v : Entry) (s : State) : (aqEnq v s).log = s.log := by
  rcases aqEnq_cases v s with ⟨_, h⟩ | ⟨_, h⟩ <;> rw [h]

@[simp] theorem aqEnq_dlv (v : Entry) (s : State) : (aqEnq v s).dlv = s.dlv := by
  rcases aqEnq_cases v s with ⟨_, h⟩ | ⟨_, h⟩ <;> rw [h]

@[simp] theorem aqEnq_cfg (v : Entry) (s : State) : (aqEnq v s).cfg = s.cfg := by
  rcases aqEnq_cases v s with ⟨_, h⟩ | ⟨_, h⟩ <;> rw [h]

@[simp] theorem aqEnq_result (v : Entry) (s : State) : (aqEnq v s).result = s.result := by
  rcases aqEnq_cases v s with ⟨_, h⟩ | ⟨_, h⟩ <;> rw [h]

@[simp] theorem aqEnq_epoch (v : Entry) (s : State) : (aqEnq v s).epoch = s.epoch := by
  rcases aqEnq_cases v s with ⟨_, h⟩ | ⟨_, h⟩ <;> rw [h]

@[simp] theorem aqEnq_agenda (v : Entry) (s : State) : (aqEnq v s).agenda = s.agenda := by
  rcases aqEnq_cases v s with ⟨_, h⟩ | ⟨_, h⟩ <;> rw [h]

/-! ### The receive deadline and delivery -/

@[simp] theorem loadRxWd_txState (s : State) : (loadRxWd s).txState = s.txState := by
  unfold loadRxWd
  split <;> rfl

@[simp] theorem loadRxWd_txIdx (s : State) : (loadRxWd s).txIdx = s.txIdx := by
  unfold loadRxWd
  split <;> rfl

@[simp] theorem loadRxWd_txTag (s : State) : (loadRxWd s).txTag = s.txTag := by
  unfold loadRxWd
  split <;> rfl

@[simp] theorem loadRxWd_txParams (s : State) : (loadRxWd s).txParams = s.txParams := by
  unfold loadRxWd
  split <;> rfl

@[simp] theorem loadRxWd_txBase (s : State) : (loadRxWd s).txBase = s.txBase := by
  unfold loadRxWd
  split <;> rfl

@[simp] theorem loadRxWd_totalLen (s : State) : (loadRxWd s).totalLen = s.totalLen := by
  unfold loadRxWd
  split <;> rfl

@[simp] theorem loadRxWd_sent (s : State) : (loadRxWd s).sent = s.sent := by
  unfold loadRxWd
  split <;> rfl

@[simp] theorem loadRxWd_expect (s : State) : (loadRxWd s).expect = s.expect := by
  unfold loadRxWd
  split <;> rfl

@[simp] theorem loadRxWd_chunkRem (s : State) : (loadRxWd s).chunkRem = s.chunkRem := by
  unfold loadRxWd
  split <;> rfl

@[simp] theorem loadRxWd_wd (s : State) : (loadRxWd s).wd = s.wd := by
  unfold loadRxWd
  split <;> rfl

@[simp] theorem loadRxWd_txOutcome (s : State) : (loadRxWd s).txOutcome = s.txOutcome := by
  unfold loadRxWd
  split <;> rfl

@[simp] theorem loadRxWd_txInfo (s : State) : (loadRxWd s).txInfo = s.txInfo := by
  unfold loadRxWd
  split <;> rfl

@[simp] theorem loadRxWd_alState (s : State) : (loadRxWd s).alState = s.alState := by
  unfold loadRxWd
  split <;> rfl

@[simp] theorem loadRxWd_alCnt (s : State) : (loadRxWd s).alCnt = s.alCnt := by
  unfold loadRxWd
  split <;> rfl

@[simp] theorem loadRxWd_alHdr (s : State) : (loadRxWd s).alHdr = s.alHdr := by
  unfold loadRxWd
  split <;> rfl

@[simp] theorem loadRxWd_aqOvf (s : State) : (loadRxWd s).aqOvf = s.aqOvf := by
  unfold loadRxWd
  split <;> rfl

@[simp] theorem loadRxWd_alLinkErr (s : State) : (loadRxWd s).alLinkErr = s.alLinkErr := by
  unfold loadRxWd
  split <;> rfl

@[simp] theorem loadRxWd_rxState (s : State) : (loadRxWd s).rxState = s.rxState := by
  unfold loadRxWd
  split <;> rfl

@[simp] theorem loadRxWd_rxCnt (s : State) : (loadRxWd s).rxCnt = s.rxCnt := by
  unfold loadRxWd
  split <;> rfl

@[simp] theorem loadRxWd_rxHdr (s : State) : (loadRxWd s).rxHdr = s.rxHdr := by
  unfold loadRxWd
  split <;> rfl

@[simp] theorem loadRxWd_rxTag (s : State) : (loadRxWd s).rxTag = s.rxTag := by
  unfold loadRxWd
  split <;> rfl

@[simp] theorem loadRxWd_rxParams (s : State) : (loadRxWd s).rxParams = s.rxParams := by
  unfold loadRxWd
  split <;> rfl

@[simp] theorem loadRxWd_rxLen (s : State) : (loadRxWd s).rxLen = s.rxLen := by
  unfold loadRxWd
  split <;> rfl

@[simp] theorem loadRxWd_rxGot (s : State) : (loadRxWd s).rxGot = s.rxGot := by
  unfold loadRxWd
  split <;> rfl

@[simp] theorem loadRxWd_rxOutcome (s : State) : (loadRxWd s).rxOutcome = s.rxOutcome := by
  unfold loadRxWd
  split <;> rfl

@[simp] theorem loadRxWd_errOut (s : State) : (loadRxWd s).errOut = s.errOut := by
  unfold loadRxWd
  split <;> rfl

@[simp] theorem loadRxWd_errRet (s : State) : (loadRxWd s).errRet = s.errRet := by
  unfold loadRxWd
  split <;> rfl

@[simp] theorem loadRxWd_errInb (s : State) : (loadRxWd s).errInb = s.errInb := by
  unfold loadRxWd
  split <;> rfl

@[simp] theorem loadRxWd_aq (s : State) : (loadRxWd s).aq = s.aq := by
  unfold loadRxWd
  split <;> rfl

@[simp] theorem loadRxWd_mem (s : State) : (loadRxWd s).mem = s.mem := by
  unfold loadRxWd
  split <;> rfl

@[simp] theorem loadRxWd_rxbuf (s : State) : (loadRxWd s).rxbuf = s.rxbuf := by
  unfold loadRxWd
  split <;> rfl

@[simp] theorem loadRxWd_out (s : State) : (loadRxWd s).out = s.out := by
  unfold loadRxWd
  split <;> rfl

@[simp] theorem loadRxWd_ret (s : State) : (loadRxWd s).ret = s.ret := by
  unfold loadRxWd
  split <;> rfl

@[simp] theorem loadRxWd_inb (s : State) : (loadRxWd s).inb = s.inb := by
  unfold loadRxWd
  split <;> rfl

@[simp] theorem loadRxWd_diag (s : State) : (loadRxWd s).diag = s.diag := by
  unfold loadRxWd
  split <;> rfl

@[simp] theorem loadRxWd_log (s : State) : (loadRxWd s).log = s.log := by
  unfold loadRxWd
  split <;> rfl

@[simp] theorem loadRxWd_dlv (s : State) : (loadRxWd s).dlv = s.dlv := by
  unfold loadRxWd
  split <;> rfl

@[simp] theorem loadRxWd_evt (s : State) : (loadRxWd s).evt = s.evt := by
  unfold loadRxWd
  split <;> rfl

@[simp] theorem loadRxWd_cfg (s : State) : (loadRxWd s).cfg = s.cfg := by
  unfold loadRxWd
  split <;> rfl

@[simp] theorem loadRxWd_result (s : State) : (loadRxWd s).result = s.result := by
  unfold loadRxWd
  split <;> rfl

@[simp] theorem loadRxWd_epoch (s : State) : (loadRxWd s).epoch = s.epoch := by
  unfold loadRxWd
  split <;> rfl

@[simp] theorem loadRxWd_agenda (s : State) : (loadRxWd s).agenda = s.agenda := by
  unfold loadRxWd
  split <;> rfl

/-- The deadline, where there is one, is loaded anew (R231, R249). -/
theorem loadRxWd_rxWd (s : State) :
    (loadRxWd s).rxWd = if 0 < s.cfg.rxTimeoutTicks then BitVec.ofNat 32 s.cfg.rxTimeoutTicks else s.rxWd := by
  unfold loadRxWd
  split <;> rfl

/-- Loading the deadline is one update of one register. -/
theorem loadRxWd_eq (s : State) :
    loadRxWd s =
      { s with rxWd := if 0 < s.cfg.rxTimeoutTicks then BitVec.ofNat 32 s.cfg.rxTimeoutTicks else s.rxWd } := by
  unfold loadRxWd
  split <;> rfl

/-- Delivery appends one record (R245). -/
theorem deliver_dlv (s : State) :
    (deliver s).dlv = s.dlv ++ [⟨s.rxTag, s.rxParams,
      if Tag.ofByte s.rxTag = some .image3Bit then
        icUnpack3Seq s.cfg.unpackLut (rxbufSeq s s.rxLen.toNat) (fcDims s.rxParams).2 (fcDims s.rxParams).1
      else rxbufSeq s s.rxLen.toNat⟩] := rfl

/-- Delivery changes `DLV` only (R245). -/
theorem deliver_eq (s : State) : deliver s = { s with dlv := (deliver s).dlv } := rfl

@[simp] theorem deliver_txState (s : State) : (deliver s).txState = s.txState := rfl

@[simp] theorem deliver_txIdx (s : State) : (deliver s).txIdx = s.txIdx := rfl

@[simp] theorem deliver_txTag (s : State) : (deliver s).txTag = s.txTag := rfl

@[simp] theorem deliver_txParams (s : State) : (deliver s).txParams = s.txParams := rfl

@[simp] theorem deliver_txBase (s : State) : (deliver s).txBase = s.txBase := rfl

@[simp] theorem deliver_totalLen (s : State) : (deliver s).totalLen = s.totalLen := rfl

@[simp] theorem deliver_sent (s : State) : (deliver s).sent = s.sent := rfl

@[simp] theorem deliver_expect (s : State) : (deliver s).expect = s.expect := rfl

@[simp] theorem deliver_chunkRem (s : State) : (deliver s).chunkRem = s.chunkRem := rfl

@[simp] theorem deliver_wd (s : State) : (deliver s).wd = s.wd := rfl

@[simp] theorem deliver_txOutcome (s : State) : (deliver s).txOutcome = s.txOutcome := rfl

@[simp] theorem deliver_txInfo (s : State) : (deliver s).txInfo = s.txInfo := rfl

@[simp] theorem deliver_alState (s : State) : (deliver s).alState = s.alState := rfl

@[simp] theorem deliver_alCnt (s : State) : (deliver s).alCnt = s.alCnt := rfl

@[simp] theorem deliver_alHdr (s : State) : (deliver s).alHdr = s.alHdr := rfl

@[simp] theorem deliver_aqOvf (s : State) : (deliver s).aqOvf = s.aqOvf := rfl

@[simp] theorem deliver_alLinkErr (s : State) : (deliver s).alLinkErr = s.alLinkErr := rfl

@[simp] theorem deliver_rxState (s : State) : (deliver s).rxState = s.rxState := rfl

@[simp] theorem deliver_rxCnt (s : State) : (deliver s).rxCnt = s.rxCnt := rfl

@[simp] theorem deliver_rxHdr (s : State) : (deliver s).rxHdr = s.rxHdr := rfl

@[simp] theorem deliver_rxTag (s : State) : (deliver s).rxTag = s.rxTag := rfl

@[simp] theorem deliver_rxParams (s : State) : (deliver s).rxParams = s.rxParams := rfl

@[simp] theorem deliver_rxLen (s : State) : (deliver s).rxLen = s.rxLen := rfl

@[simp] theorem deliver_rxGot (s : State) : (deliver s).rxGot = s.rxGot := rfl

@[simp] theorem deliver_rxWd (s : State) : (deliver s).rxWd = s.rxWd := rfl

@[simp] theorem deliver_rxOutcome (s : State) : (deliver s).rxOutcome = s.rxOutcome := rfl

@[simp] theorem deliver_errOut (s : State) : (deliver s).errOut = s.errOut := rfl

@[simp] theorem deliver_errRet (s : State) : (deliver s).errRet = s.errRet := rfl

@[simp] theorem deliver_errInb (s : State) : (deliver s).errInb = s.errInb := rfl

@[simp] theorem deliver_aq (s : State) : (deliver s).aq = s.aq := rfl

@[simp] theorem deliver_mem (s : State) : (deliver s).mem = s.mem := rfl

@[simp] theorem deliver_rxbuf (s : State) : (deliver s).rxbuf = s.rxbuf := rfl

@[simp] theorem deliver_out (s : State) : (deliver s).out = s.out := rfl

@[simp] theorem deliver_ret (s : State) : (deliver s).ret = s.ret := rfl

@[simp] theorem deliver_inb (s : State) : (deliver s).inb = s.inb := rfl

@[simp] theorem deliver_diag (s : State) : (deliver s).diag = s.diag := rfl

@[simp] theorem deliver_log (s : State) : (deliver s).log = s.log := rfl

@[simp] theorem deliver_evt (s : State) : (deliver s).evt = s.evt := rfl

@[simp] theorem deliver_cfg (s : State) : (deliver s).cfg = s.cfg := rfl

@[simp] theorem deliver_result (s : State) : (deliver s).result = s.result := rfl

@[simp] theorem deliver_epoch (s : State) : (deliver s).epoch = s.epoch := rfl

@[simp] theorem deliver_agenda (s : State) : (deliver s).agenda = s.agenda := rfl

/-! ### The listener's fifth byte -/

/-- The fifth byte is taken into the header (R171). -/
theorem alPopFifth_of_cons (s : State) (b : Byte) (rest : List Byte) (h : s.ret = b :: rest) :
    alPopFifth s = { s with ret := rest, alHdr := { s.alHdr with h4 := b }, alCnt := 0 } := by
  simp [alPopFifth, h]

@[simp] theorem alPopFifth_txState (s : State) : (alPopFifth s).txState = s.txState := by
  unfold alPopFifth
  split <;> rfl

@[simp] theorem alPopFifth_txIdx (s : State) : (alPopFifth s).txIdx = s.txIdx := by
  unfold alPopFifth
  split <;> rfl

@[simp] theorem alPopFifth_txTag (s : State) : (alPopFifth s).txTag = s.txTag := by
  unfold alPopFifth
  split <;> rfl

@[simp] theorem alPopFifth_txParams (s : State) : (alPopFifth s).txParams = s.txParams := by
  unfold alPopFifth
  split <;> rfl

@[simp] theorem alPopFifth_txBase (s : State) : (alPopFifth s).txBase = s.txBase := by
  unfold alPopFifth
  split <;> rfl

@[simp] theorem alPopFifth_totalLen (s : State) : (alPopFifth s).totalLen = s.totalLen := by
  unfold alPopFifth
  split <;> rfl

@[simp] theorem alPopFifth_sent (s : State) : (alPopFifth s).sent = s.sent := by
  unfold alPopFifth
  split <;> rfl

@[simp] theorem alPopFifth_expect (s : State) : (alPopFifth s).expect = s.expect := by
  unfold alPopFifth
  split <;> rfl

@[simp] theorem alPopFifth_chunkRem (s : State) : (alPopFifth s).chunkRem = s.chunkRem := by
  unfold alPopFifth
  split <;> rfl

@[simp] theorem alPopFifth_wd (s : State) : (alPopFifth s).wd = s.wd := by
  unfold alPopFifth
  split <;> rfl

@[simp] theorem alPopFifth_txOutcome (s : State) : (alPopFifth s).txOutcome = s.txOutcome := by
  unfold alPopFifth
  split <;> rfl

@[simp] theorem alPopFifth_txInfo (s : State) : (alPopFifth s).txInfo = s.txInfo := by
  unfold alPopFifth
  split <;> rfl

@[simp] theorem alPopFifth_alState (s : State) : (alPopFifth s).alState = s.alState := by
  unfold alPopFifth
  split <;> rfl

@[simp] theorem alPopFifth_aqOvf (s : State) : (alPopFifth s).aqOvf = s.aqOvf := by
  unfold alPopFifth
  split <;> rfl

@[simp] theorem alPopFifth_alLinkErr (s : State) : (alPopFifth s).alLinkErr = s.alLinkErr := by
  unfold alPopFifth
  split <;> rfl

@[simp] theorem alPopFifth_rxState (s : State) : (alPopFifth s).rxState = s.rxState := by
  unfold alPopFifth
  split <;> rfl

@[simp] theorem alPopFifth_rxCnt (s : State) : (alPopFifth s).rxCnt = s.rxCnt := by
  unfold alPopFifth
  split <;> rfl

@[simp] theorem alPopFifth_rxHdr (s : State) : (alPopFifth s).rxHdr = s.rxHdr := by
  unfold alPopFifth
  split <;> rfl

@[simp] theorem alPopFifth_rxTag (s : State) : (alPopFifth s).rxTag = s.rxTag := by
  unfold alPopFifth
  split <;> rfl

@[simp] theorem alPopFifth_rxParams (s : State) : (alPopFifth s).rxParams = s.rxParams := by
  unfold alPopFifth
  split <;> rfl

@[simp] theorem alPopFifth_rxLen (s : State) : (alPopFifth s).rxLen = s.rxLen := by
  unfold alPopFifth
  split <;> rfl

@[simp] theorem alPopFifth_rxGot (s : State) : (alPopFifth s).rxGot = s.rxGot := by
  unfold alPopFifth
  split <;> rfl

@[simp] theorem alPopFifth_rxWd (s : State) : (alPopFifth s).rxWd = s.rxWd := by
  unfold alPopFifth
  split <;> rfl

@[simp] theorem alPopFifth_rxOutcome (s : State) : (alPopFifth s).rxOutcome = s.rxOutcome := by
  unfold alPopFifth
  split <;> rfl

@[simp] theorem alPopFifth_errOut (s : State) : (alPopFifth s).errOut = s.errOut := by
  unfold alPopFifth
  split <;> rfl

@[simp] theorem alPopFifth_errRet (s : State) : (alPopFifth s).errRet = s.errRet := by
  unfold alPopFifth
  split <;> rfl

@[simp] theorem alPopFifth_errInb (s : State) : (alPopFifth s).errInb = s.errInb := by
  unfold alPopFifth
  split <;> rfl

@[simp] theorem alPopFifth_aq (s : State) : (alPopFifth s).aq = s.aq := by
  unfold alPopFifth
  split <;> rfl

@[simp] theorem alPopFifth_mem (s : State) : (alPopFifth s).mem = s.mem := by
  unfold alPopFifth
  split <;> rfl

@[simp] theorem alPopFifth_rxbuf (s : State) : (alPopFifth s).rxbuf = s.rxbuf := by
  unfold alPopFifth
  split <;> rfl

@[simp] theorem alPopFifth_out (s : State) : (alPopFifth s).out = s.out := by
  unfold alPopFifth
  split <;> rfl

@[simp] theorem alPopFifth_inb (s : State) : (alPopFifth s).inb = s.inb := by
  unfold alPopFifth
  split <;> rfl

@[simp] theorem alPopFifth_diag (s : State) : (alPopFifth s).diag = s.diag := by
  unfold alPopFifth
  split <;> rfl

@[simp] theorem alPopFifth_log (s : State) : (alPopFifth s).log = s.log := by
  unfold alPopFifth
  split <;> rfl

@[simp] theorem alPopFifth_dlv (s : State) : (alPopFifth s).dlv = s.dlv := by
  unfold alPopFifth
  split <;> rfl

@[simp] theorem alPopFifth_evt (s : State) : (alPopFifth s).evt = s.evt := by
  unfold alPopFifth
  split <;> rfl

@[simp] theorem alPopFifth_cfg (s : State) : (alPopFifth s).cfg = s.cfg := by
  unfold alPopFifth
  split <;> rfl

@[simp] theorem alPopFifth_result (s : State) : (alPopFifth s).result = s.result := by
  unfold alPopFifth
  split <;> rfl

@[simp] theorem alPopFifth_epoch (s : State) : (alPopFifth s).epoch = s.epoch := by
  unfold alPopFifth
  split <;> rfl

@[simp] theorem alPopFifth_agenda (s : State) : (alPopFifth s).agenda = s.agenda := by
  unfold alPopFifth
  split <;> rfl

/-! ### Tags -/

/-- The bytes that are tags (R84). -/
theorem Tag.ofByte_eq_some_iff (b : Byte) (t : Tag) : Tag.ofByte b = some t ↔ b = t.byte := by
  cases t <;> revert b <;> decide

/-- The other bytes (R87). -/
theorem Tag.ofByte_eq_none_iff (b : Byte) :
    Tag.ofByte b = none ↔ b ∉ ([0x00, 0x01, 0x02, 0x03, 0x04, 0xFF] : List Byte) := by
  revert b
  decide

@[simp] theorem Tag.ofByte_byte (t : Tag) : Tag.ofByte t.byte = some t := by
  cases t <;> rfl

/-- Every announced payload length fits 32 bits (R92). -/
theorem fcPaylen_lt (k : Tag2Kind) (t : Tag) (p : Params) : fcPaylen k t p < 2 ^ 32 := by
  have hc := (fcCount p).isLt
  have h1 := (fcDims p).1.isLt
  have h2 := (fcDims p).2.isLt
  have hp : (fcDims p).1.toNat * (fcDims p).2.toNat ≤ 65535 * 65535 := Nat.mul_le_mul (by omega) (by omega)
  cases t <;> simp only [fcPaylen, ceilDiv]
  case tag2 =>
    cases k
    · show (fcDims p).1.toNat * (fcDims p).2.toNat < 2 ^ 32
      omega
    · exact hc
  all_goals omega

/-- Every payload kind is a recognised tag that is neither Ack nor Nak (R110). -/
theorem payTag_eq_some_iff (b : Byte) (t : Tag) :
    payTag b = some t ↔ Tag.ofByte b = some t ∧ t ≠ .ack ∧ t ≠ .nak := by
  cases t <;> revert b <;> decide

/-! ### The receiver's dispatch -/

/-- All that a completed header on the inbound link can do (R232 to R239). -/
theorem rxDispatch_cases (s : State) :
    (Tag.ofByte s.rxHdr.h0 = none ∧
      rxDispatch s = rxRaise .malformedFrame { s with rxTag := s.rxHdr.h0, rxParams := s.rxHdr.params }) ∨
    ∃ t len, Tag.ofByte s.rxHdr.h0 = some t ∧ len = fcPaylen s.cfg.tag2Kind t s.rxHdr.params ∧
      ((s.cfg.maxPayload < len ∧ rxDispatch s = rxRaise .malformedFrame
          { s with
            rxTag := s.rxHdr.h0, rxParams := s.rxHdr.params, rxLen := BitVec.ofNat 32 len, rxGot := 0 }) ∨
       (len ≤ s.cfg.maxPayload ∧ len = 0 ∧ rxDispatch s = deliver
          { s with rxTag := s.rxHdr.h0, rxParams := s.rxHdr.params, rxLen := 0, rxGot := 0 }) ∨
       (len ≤ s.cfg.maxPayload ∧ 0 < len ∧ rxDispatch s = loadRxWd
          { s with
            rxTag := s.rxHdr.h0, rxParams := s.rxHdr.params, rxLen := BitVec.ofNat 32 len, rxGot := 0
            rxState := .payload })) := by
  cases ht : Tag.ofByte s.rxHdr.h0 with
  | none => exact .inl ⟨rfl, by simp [rxDispatch, ht]⟩
  | some t =>
    refine .inr ⟨t, _, rfl, rfl, ?_⟩
    by_cases hm : s.cfg.maxPayload < fcPaylen s.cfg.tag2Kind t s.rxHdr.params
    · exact .inl ⟨hm, by simp [rxDispatch, ht, hm]⟩
    · by_cases h0 : fcPaylen s.cfg.tag2Kind t s.rxHdr.params = 0
      · exact .inr (.inl ⟨by omega, h0, by simp [rxDispatch, ht, h0]⟩)
      · exact .inr (.inr ⟨by omega, by omega, by simp [rxDispatch, ht, hm, h0]⟩)

@[simp] theorem rxDispatch_txState (s : State) : (rxDispatch s).txState = s.txState := by
  rcases rxDispatch_cases s with ⟨_, h⟩ | ⟨_, _, _, _, ⟨_, h⟩ | ⟨_, _, h⟩ | ⟨_, _, h⟩⟩ <;> simp [h]

@[simp] theorem rxDispatch_txIdx (s : State) : (rxDispatch s).txIdx = s.txIdx := by
  rcases rxDispatch_cases s with ⟨_, h⟩ | ⟨_, _, _, _, ⟨_, h⟩ | ⟨_, _, h⟩ | ⟨_, _, h⟩⟩ <;> simp [h]

@[simp] theorem rxDispatch_txTag (s : State) : (rxDispatch s).txTag = s.txTag := by
  rcases rxDispatch_cases s with ⟨_, h⟩ | ⟨_, _, _, _, ⟨_, h⟩ | ⟨_, _, h⟩ | ⟨_, _, h⟩⟩ <;> simp [h]

@[simp] theorem rxDispatch_txParams (s : State) : (rxDispatch s).txParams = s.txParams := by
  rcases rxDispatch_cases s with ⟨_, h⟩ | ⟨_, _, _, _, ⟨_, h⟩ | ⟨_, _, h⟩ | ⟨_, _, h⟩⟩ <;> simp [h]

@[simp] theorem rxDispatch_txBase (s : State) : (rxDispatch s).txBase = s.txBase := by
  rcases rxDispatch_cases s with ⟨_, h⟩ | ⟨_, _, _, _, ⟨_, h⟩ | ⟨_, _, h⟩ | ⟨_, _, h⟩⟩ <;> simp [h]

@[simp] theorem rxDispatch_totalLen (s : State) : (rxDispatch s).totalLen = s.totalLen := by
  rcases rxDispatch_cases s with ⟨_, h⟩ | ⟨_, _, _, _, ⟨_, h⟩ | ⟨_, _, h⟩ | ⟨_, _, h⟩⟩ <;> simp [h]

@[simp] theorem rxDispatch_sent (s : State) : (rxDispatch s).sent = s.sent := by
  rcases rxDispatch_cases s with ⟨_, h⟩ | ⟨_, _, _, _, ⟨_, h⟩ | ⟨_, _, h⟩ | ⟨_, _, h⟩⟩ <;> simp [h]

@[simp] theorem rxDispatch_expect (s : State) : (rxDispatch s).expect = s.expect := by
  rcases rxDispatch_cases s with ⟨_, h⟩ | ⟨_, _, _, _, ⟨_, h⟩ | ⟨_, _, h⟩ | ⟨_, _, h⟩⟩ <;> simp [h]

@[simp] theorem rxDispatch_chunkRem (s : State) : (rxDispatch s).chunkRem = s.chunkRem := by
  rcases rxDispatch_cases s with ⟨_, h⟩ | ⟨_, _, _, _, ⟨_, h⟩ | ⟨_, _, h⟩ | ⟨_, _, h⟩⟩ <;> simp [h]

@[simp] theorem rxDispatch_wd (s : State) : (rxDispatch s).wd = s.wd := by
  rcases rxDispatch_cases s with ⟨_, h⟩ | ⟨_, _, _, _, ⟨_, h⟩ | ⟨_, _, h⟩ | ⟨_, _, h⟩⟩ <;> simp [h]

@[simp] theorem rxDispatch_txOutcome (s : State) : (rxDispatch s).txOutcome = s.txOutcome := by
  rcases rxDispatch_cases s with ⟨_, h⟩ | ⟨_, _, _, _, ⟨_, h⟩ | ⟨_, _, h⟩ | ⟨_, _, h⟩⟩ <;> simp [h]

@[simp] theorem rxDispatch_txInfo (s : State) : (rxDispatch s).txInfo = s.txInfo := by
  rcases rxDispatch_cases s with ⟨_, h⟩ | ⟨_, _, _, _, ⟨_, h⟩ | ⟨_, _, h⟩ | ⟨_, _, h⟩⟩ <;> simp [h]

@[simp] theorem rxDispatch_alState (s : State) : (rxDispatch s).alState = s.alState := by
  rcases rxDispatch_cases s with ⟨_, h⟩ | ⟨_, _, _, _, ⟨_, h⟩ | ⟨_, _, h⟩ | ⟨_, _, h⟩⟩ <;> simp [h]

@[simp] theorem rxDispatch_alCnt (s : State) : (rxDispatch s).alCnt = s.alCnt := by
  rcases rxDispatch_cases s with ⟨_, h⟩ | ⟨_, _, _, _, ⟨_, h⟩ | ⟨_, _, h⟩ | ⟨_, _, h⟩⟩ <;> simp [h]

@[simp] theorem rxDispatch_alHdr (s : State) : (rxDispatch s).alHdr = s.alHdr := by
  rcases rxDispatch_cases s with ⟨_, h⟩ | ⟨_, _, _, _, ⟨_, h⟩ | ⟨_, _, h⟩ | ⟨_, _, h⟩⟩ <;> simp [h]

@[simp] theorem rxDispatch_aqOvf (s : State) : (rxDispatch s).aqOvf = s.aqOvf := by
  rcases rxDispatch_cases s with ⟨_, h⟩ | ⟨_, _, _, _, ⟨_, h⟩ | ⟨_, _, h⟩ | ⟨_, _, h⟩⟩ <;> simp [h]

@[simp] theorem rxDispatch_alLinkErr (s : State) : (rxDispatch s).alLinkErr = s.alLinkErr := by
  rcases rxDispatch_cases s with ⟨_, h⟩ | ⟨_, _, _, _, ⟨_, h⟩ | ⟨_, _, h⟩ | ⟨_, _, h⟩⟩ <;> simp [h]

@[simp] theorem rxDispatch_rxCnt (s : State) : (rxDispatch s).rxCnt = s.rxCnt := by
  rcases rxDispatch_cases s with ⟨_, h⟩ | ⟨_, _, _, _, ⟨_, h⟩ | ⟨_, _, h⟩ | ⟨_, _, h⟩⟩ <;> simp [h]

@[simp] theorem rxDispatch_rxHdr (s : State) : (rxDispatch s).rxHdr = s.rxHdr := by
  rcases rxDispatch_cases s with ⟨_, h⟩ | ⟨_, _, _, _, ⟨_, h⟩ | ⟨_, _, h⟩ | ⟨_, _, h⟩⟩ <;> simp [h]

@[simp] theorem rxDispatch_errOut (s : State) : (rxDispatch s).errOut = s.errOut := by
  rcases rxDispatch_cases s with ⟨_, h⟩ | ⟨_, _, _, _, ⟨_, h⟩ | ⟨_, _, h⟩ | ⟨_, _, h⟩⟩ <;> simp [h]

@[simp] theorem rxDispatch_errRet (s : State) : (rxDispatch s).errRet = s.errRet := by
  rcases rxDispatch_cases s with ⟨_, h⟩ | ⟨_, _, _, _, ⟨_, h⟩ | ⟨_, _, h⟩ | ⟨_, _, h⟩⟩ <;> simp [h]

@[simp] theorem rxDispatch_errInb (s : State) : (rxDispatch s).errInb = s.errInb := by
  rcases rxDispatch_cases s with ⟨_, h⟩ | ⟨_, _, _, _, ⟨_, h⟩ | ⟨_, _, h⟩ | ⟨_, _, h⟩⟩ <;> simp [h]

@[simp] theorem rxDispatch_aq (s : State) : (rxDispatch s).aq = s.aq := by
  rcases rxDispatch_cases s with ⟨_, h⟩ | ⟨_, _, _, _, ⟨_, h⟩ | ⟨_, _, h⟩ | ⟨_, _, h⟩⟩ <;> simp [h]

@[simp] theorem rxDispatch_mem (s : State) : (rxDispatch s).mem = s.mem := by
  rcases rxDispatch_cases s with ⟨_, h⟩ | ⟨_, _, _, _, ⟨_, h⟩ | ⟨_, _, h⟩ | ⟨_, _, h⟩⟩ <;> simp [h]

@[simp] theorem rxDispatch_rxbuf (s : State) : (rxDispatch s).rxbuf = s.rxbuf := by
  rcases rxDispatch_cases s with ⟨_, h⟩ | ⟨_, _, _, _, ⟨_, h⟩ | ⟨_, _, h⟩ | ⟨_, _, h⟩⟩ <;> simp [h]

@[simp] theorem rxDispatch_out (s : State) : (rxDispatch s).out = s.out := by
  rcases rxDispatch_cases s with ⟨_, h⟩ | ⟨_, _, _, _, ⟨_, h⟩ | ⟨_, _, h⟩ | ⟨_, _, h⟩⟩ <;> simp [h]

@[simp] theorem rxDispatch_ret (s : State) : (rxDispatch s).ret = s.ret := by
  rcases rxDispatch_cases s with ⟨_, h⟩ | ⟨_, _, _, _, ⟨_, h⟩ | ⟨_, _, h⟩ | ⟨_, _, h⟩⟩ <;> simp [h]

@[simp] theorem rxDispatch_inb (s : State) : (rxDispatch s).inb = s.inb := by
  rcases rxDispatch_cases s with ⟨_, h⟩ | ⟨_, _, _, _, ⟨_, h⟩ | ⟨_, _, h⟩ | ⟨_, _, h⟩⟩ <;> simp [h]

@[simp] theorem rxDispatch_diag (s : State) : (rxDispatch s).diag = s.diag := by
  rcases rxDispatch_cases s with ⟨_, h⟩ | ⟨_, _, _, _, ⟨_, h⟩ | ⟨_, _, h⟩ | ⟨_, _, h⟩⟩ <;> simp [h]

@[simp] theorem rxDispatch_log (s : State) : (rxDispatch s).log = s.log := by
  rcases rxDispatch_cases s with ⟨_, h⟩ | ⟨_, _, _, _, ⟨_, h⟩ | ⟨_, _, h⟩ | ⟨_, _, h⟩⟩ <;> simp [h]

@[simp] theorem rxDispatch_cfg (s : State) : (rxDispatch s).cfg = s.cfg := by
  rcases rxDispatch_cases s with ⟨_, h⟩ | ⟨_, _, _, _, ⟨_, h⟩ | ⟨_, _, h⟩ | ⟨_, _, h⟩⟩ <;> simp [h]

@[simp] theorem rxDispatch_result (s : State) : (rxDispatch s).result = s.result := by
  rcases rxDispatch_cases s with ⟨_, h⟩ | ⟨_, _, _, _, ⟨_, h⟩ | ⟨_, _, h⟩ | ⟨_, _, h⟩⟩ <;> simp [h]

@[simp] theorem rxDispatch_epoch (s : State) : (rxDispatch s).epoch = s.epoch := by
  rcases rxDispatch_cases s with ⟨_, h⟩ | ⟨_, _, _, _, ⟨_, h⟩ | ⟨_, _, h⟩ | ⟨_, _, h⟩⟩ <;> simp [h]

@[simp] theorem rxDispatch_agenda (s : State) : (rxDispatch s).agenda = s.agenda := by
  rcases rxDispatch_cases s with ⟨_, h⟩ | ⟨_, _, _, _, ⟨_, h⟩ | ⟨_, _, h⟩ | ⟨_, _, h⟩⟩ <;> simp [h]

/-! ### Where the next step comes from -/

/-- All the ways a step can answer a state: an instruction of a command, of a frame, of a unit's turn or of a tick is run; or
the environment moves; or every unit waits. -/
theorem step_eq (s : State) :
    step s =
      match s.agenda with
      | [] =>
        match selectAny s with
        | some i => exec i s
        | none => .next s
      | .command bs :: rest =>
        match decode s.cfg.tag2Kind .command bs with
        | .ok i => exec i { s with agenda := rest }
        | .error e => .refused (.malformedCommand e)
      | .frame l h :: rest => exec (decodeFrame s.cfg.tag2Kind l h) { s with agenda := rest }
      | .turn u :: rest =>
        match select u { s with agenda := rest } with
        | some i => exec i { s with agenda := rest }
        | none => .next { s with agenda := rest }
      | .tick :: rest => exec .tick { s with agenda := rest }
      | .peerByte l b :: rest => .next (peerByte l b { s with agenda := rest })
      | .linkOut :: rest => .next (linkOut { s with agenda := rest })
      | .hostPop c :: rest => .next (hostPop c { s with agenda := rest })
      | .linkErr l :: rest => .next (linkError l { s with agenda := rest })
      | .reset :: rest => .next (resetBlock { s with agenda := rest }) := by
  unfold step fetch
  cases h : s.agenda with
  | nil =>
    simp only [fetchTurn]
    cases selectAny s <;> rfl
  | cons item rest =>
    cases item with
    | command bs =>
      simp only [fetchItem, fetchBytes]
      cases decode s.cfg.tag2Kind .command bs <;> rfl
    | frame l h => rfl
    | turn u =>
      simp only [fetchItem, fetchTurn]
      cases select u { s with agenda := rest } <;> rfl
    | tick => rfl
    | peerByte l b => rfl
    | linkOut => rfl
    | hostPop c => rfl
    | linkErr l => rfl
    | reset => rfl

/-- A selected step is an enabled one of the unit (R99). -/
theorem select_enabled {u : UnitName} {s : State} {i : Instr} (h : select u s = some i) :
    unitOf i = some u ∧ enabled i s = true := by
  have hm := List.mem_of_find?_eq_some h
  have he := List.find?_some h
  refine ⟨?_, he⟩
  revert hm
  cases u <;> simp only [unitSteps, List.mem_cons, List.not_mem_nil, or_false] <;> rintro hm <;>
    rcases hm with rfl | rfl | rfl | rfl | rfl | rfl | rfl | rfl | rfl | rfl | rfl <;> rfl

/-- The step taken with an empty agenda is an enabled one of some unit. -/
theorem selectAny_enabled {s : State} {i : Instr} (h : selectAny s = some i) :
    ∃ u, unitOf i = some u ∧ enabled i s = true := by
  unfold selectAny at h
  split at h
  · rename_i j hj
    cases h
    exact ⟨.al, select_enabled hj⟩
  · split at h
    · rename_i j hj
      cases h
      exact ⟨.tx, select_enabled hj⟩
    · exact ⟨.rx, select_enabled h⟩

end Sys2Proof.Machine
end

