-- ==== Sys2Proof/Laws/PerInstr.lean ====
section
/-! SUPPORT. The statement made of every instruction: the shape of its encoding. -/

namespace Sys2Proof.Laws

/-- The shape of an instruction's encoding (R80, R96): a header's five bytes on a link; or a code byte and then exactly
the operand bytes that code takes (none after an unlisted code). -/
def EncodingShape.Statement (i : Instr) : Prop :=
  ∀ k p bs, i.wf k = true → encode i = some (p, bs) →
    match p with
    | .link _ => bs.length = 5
    | .command => ∃ code ops, bs = code :: ops ∧ ops.length = (operandBytes code).getD 0

/-- A row without a bit pattern (R98, R99). -/
theorem EncodingShape.of_none {i : Instr} (h : encode i = none) : EncodingShape.Statement i := by
  intro k p bs _ he
  rw [h] at he
  cases he

/-- A header (R80). -/
theorem EncodingShape.of_header {i : Instr} {l : InLink} {h : Header} (hi : encode i = some (.link l, h.bytes)) :
    EncodingShape.Statement i := by
  intro k p bs _ he
  rw [hi] at he
  cases he
  rfl

/-- A listed command (R96). -/
theorem EncodingShape.of_command {i : Instr} {code : Byte} {ops : List Byte}
    (hi : encode i = some (.command, code :: ops)) (hl : ops.length = (operandBytes code).getD 0) :
    EncodingShape.Statement i := by
  intro k p bs _ he
  rw [hi] at he
  cases he
  exact ⟨code, ops, rfl, hl⟩

theorem EncodingShape.frameRawBytes (l : InLink) (n : U32) : EncodingShape.Statement (.frameRawBytes l n) :=
  EncodingShape.of_header rfl

theorem EncodingShape.frameImage8Bit (l : InLink) (height width : U16) :
    EncodingShape.Statement (.frameImage8Bit l height width) :=
  EncodingShape.of_header rfl

theorem EncodingShape.frameRawBytesWithWake (l : InLink) (n : U32) :
    EncodingShape.Statement (.frameRawBytesWithWake l n) :=
  EncodingShape.of_header rfl

theorem EncodingShape.frameStringData (l : InLink) (n : U32) : EncodingShape.Statement (.frameStringData l n) :=
  EncodingShape.of_header rfl

theorem EncodingShape.frameImage3Bit (l : InLink) (height width : U16) :
    EncodingShape.Statement (.frameImage3Bit l height width) :=
  EncodingShape.of_header rfl

theorem EncodingShape.frameAck (l : InLink) (n : U32) : EncodingShape.Statement (.frameAck l n) :=
  EncodingShape.of_header rfl

theorem EncodingShape.frameNak (l : InLink) (x : Params) : EncodingShape.Statement (.frameNak l x) :=
  EncodingShape.of_header rfl

theorem EncodingShape.frameUnrecognised (l : InLink) (tag : Byte) (x : Params) :
    EncodingShape.Statement (.frameUnrecognised l tag x) :=
  EncodingShape.of_header rfl

theorem EncodingShape.fcEncode (tag : Byte) (params : Params) : EncodingShape.Statement (.fcEncode tag params) :=
  EncodingShape.of_command rfl rfl

theorem EncodingShape.fcDecode (h : Header) : EncodingShape.Statement (.fcDecode h) :=
  EncodingShape.of_command rfl rfl

theorem EncodingShape.icPack3 (src : U32) (height width : U16) (dst : U32) :
    EncodingShape.Statement (.icPack3 src height width dst) :=
  EncodingShape.of_command rfl rfl

theorem EncodingShape.icUnpack3 (src : U32) (width height : U16) (dst : U32) :
    EncodingShape.Statement (.icUnpack3 src width height dst) :=
  EncodingShape.of_command rfl rfl

theorem EncodingShape.txStart (tag : Byte) (params : Params) (base : U32) :
    EncodingShape.Statement (.txStart tag params base) :=
  EncodingShape.of_command rfl rfl

theorem EncodingShape.rxRestart : EncodingShape.Statement .rxRestart :=
  EncodingShape.of_command rfl rfl

theorem EncodingShape.regRead (regno : Byte) : EncodingShape.Statement (.regRead regno) :=
  EncodingShape.of_command rfl rfl

theorem EncodingShape.memWrite (addr : U32) (byte : Byte) : EncodingShape.Statement (.memWrite addr byte) :=
  EncodingShape.of_command rfl rfl

theorem EncodingShape.memRead (addr : U32) : EncodingShape.Statement (.memRead addr) :=
  EncodingShape.of_command rfl rfl

theorem EncodingShape.hostInvalid (code : Byte) : EncodingShape.Statement (.hostInvalid code) := by
  intro k p bs hw he
  cases he
  refine ⟨code, [], rfl, ?_⟩
  have hn : operandBytes code = none := by
    revert hw
    simp only [Instr.wf]
    revert code
    decide
  rw [hn]
  rfl

theorem EncodingShape.fcCount (params : Params) : EncodingShape.Statement (.fcCount params) :=
  EncodingShape.of_none rfl

theorem EncodingShape.fcDims (params : Params) : EncodingShape.Statement (.fcDims params) :=
  EncodingShape.of_none rfl

theorem EncodingShape.fcPaylen (tag : Tag) (params : Params) : EncodingShape.Statement (.fcPaylen tag params) :=
  EncodingShape.of_none rfl

theorem EncodingShape.fcKind (tag : Tag) : EncodingShape.Statement (.fcKind tag) :=
  EncodingShape.of_none rfl

theorem EncodingShape.icQuant (g : Byte) : EncodingShape.Statement (.icQuant g) :=
  EncodingShape.of_none rfl

theorem EncodingShape.icDequant (level : Level) : EncodingShape.Statement (.icDequant level) :=
  EncodingShape.of_none rfl

theorem EncodingShape.icPack3Seq (m : List Byte) : EncodingShape.Statement (.icPack3Seq m) :=
  EncodingShape.of_none rfl

theorem EncodingShape.icUnpack3Seq (b : List Byte) (width height : U16) :
    EncodingShape.Statement (.icUnpack3Seq b width height) :=
  EncodingShape.of_none rfl

theorem EncodingShape.aqEnq (v : Entry) : EncodingShape.Statement (.aqEnq v) :=
  EncodingShape.of_none rfl

theorem EncodingShape.aqDeq : EncodingShape.Statement .aqDeq :=
  EncodingShape.of_none rfl

theorem EncodingShape.aqClear : EncodingShape.Statement .aqClear :=
  EncodingShape.of_none rfl

theorem EncodingShape.txHsByte : EncodingShape.Statement .txHsByte :=
  EncodingShape.of_none rfl

theorem EncodingShape.txHsAck : EncodingShape.Statement .txHsAck :=
  EncodingShape.of_none rfl

theorem EncodingShape.txHsNak : EncodingShape.Statement .txHsNak :=
  EncodingShape.of_none rfl

theorem EncodingShape.txHsMismatch : EncodingShape.Statement .txHsMismatch :=
  EncodingShape.of_none rfl

theorem EncodingShape.txHsTimeout : EncodingShape.Statement .txHsTimeout :=
  EncodingShape.of_none rfl

theorem EncodingShape.txChunkByte : EncodingShape.Statement .txChunkByte :=
  EncodingShape.of_none rfl

theorem EncodingShape.txChunkAck : EncodingShape.Statement .txChunkAck :=
  EncodingShape.of_none rfl

theorem EncodingShape.txChunkNak : EncodingShape.Statement .txChunkNak :=
  EncodingShape.of_none rfl

theorem EncodingShape.txChunkMismatch : EncodingShape.Statement .txChunkMismatch :=
  EncodingShape.of_none rfl

theorem EncodingShape.txChunkTimeout : EncodingShape.Statement .txChunkTimeout :=
  EncodingShape.of_none rfl

theorem EncodingShape.txLinkErr : EncodingShape.Statement .txLinkErr :=
  EncodingShape.of_none rfl

theorem EncodingShape.alHdrByte : EncodingShape.Statement .alHdrByte :=
  EncodingShape.of_none rfl

theorem EncodingShape.alFrameAck : EncodingShape.Statement .alFrameAck :=
  EncodingShape.of_none rfl

theorem EncodingShape.alFrameNak : EncodingShape.Statement .alFrameNak :=
  EncodingShape.of_none rfl

theorem EncodingShape.alFrameStr : EncodingShape.Statement .alFrameStr :=
  EncodingShape.of_none rfl

theorem EncodingShape.alFrameDropUnknown : EncodingShape.Statement .alFrameDropUnknown :=
  EncodingShape.of_none rfl

theorem EncodingShape.alFrameDropPayloadKind : EncodingShape.Statement .alFrameDropPayloadKind :=
  EncodingShape.of_none rfl

theorem EncodingShape.alDiagByte : EncodingShape.Statement .alDiagByte :=
  EncodingShape.of_none rfl

theorem EncodingShape.alLinkErr : EncodingShape.Statement .alLinkErr :=
  EncodingShape.of_none rfl

theorem EncodingShape.rxHdrByte : EncodingShape.Statement .rxHdrByte :=
  EncodingShape.of_none rfl

theorem EncodingShape.rxHdrDone : EncodingShape.Statement .rxHdrDone :=
  EncodingShape.of_none rfl

theorem EncodingShape.rxPayByte : EncodingShape.Statement .rxPayByte :=
  EncodingShape.of_none rfl

theorem EncodingShape.rxTimeout : EncodingShape.Statement .rxTimeout :=
  EncodingShape.of_none rfl

theorem EncodingShape.rxLinkErr : EncodingShape.Statement .rxLinkErr :=
  EncodingShape.of_none rfl

theorem EncodingShape.tick : EncodingShape.Statement .tick :=
  EncodingShape.of_none rfl

end Sys2Proof.Laws
end

