-- ==== Sys2Proof/Laws/Retry.lean ====
section
/-! SUPPORT. The Retry Controller's turns: what HOST's own choice does to the block, what each update leaves of HOST's state,
and when an outcome ends a call. -/

namespace Sys2Proof.Machine

/-! ### HOST's choices -/

/-- A host operation that HOST issues runs at once (R96). -/
theorem hostAct_command {i : Instr} {s : State}
    (hd : decode s.cfg.tag2Kind .command (i.command.getD []) = .ok i) : hostAct (hostCommand i) s = exec i s := by
  unfold hostAct hostCommand
  rw [step_eq]
  simp [hd]

/-- HOST takes the head of EVT. -/
theorem hostAct_hostPop_evt (s : State) :
    hostAct (.hostPop .evt) s = .next { s with evt := s.evt.tail } := by
  unfold hostAct
  rw [step_eq]
  rfl

@[simp] theorem withHost_next (f : State → RetryState) (t : State) : withHost f (.next t) = .next (f t, t) := rfl

/-- HOST's turn answers a next state only where the block does. -/
theorem withHost_eq_next {f : State → RetryState} {o : StepOutcome} {r : RetryState} {t : State}
    (h : withHost f o = .next (r, t)) : o = .next t ∧ r = f t := by
  cases o <;> cases h
  exact ⟨rfl, rfl⟩

/-! ### When a call ends (R276, R277) -/

@[simp] theorem retryEnds_single (m : Option Nat) (n : Nat) (c : OutcomeCode) : retryEnds .single m n c = true := rfl

/-- In continuous mode: success, a fatal outcome, or the last attempt allowed. -/
theorem retryEnds_continuous_iff (m : Option Nat) (n : Nat) (c : OutcomeCode) :
    retryEnds .continuous m n c = true ↔ c = .success ∨ outcomeClass c = some .fatal ∨ m = some n := by
  simp [retryEnds, or_assoc]

/-! ### HOST's state after each update -/

@[simp] theorem answered_attempt (r : RetryState) (a : AttemptAnswer) : (r.answered a).attempt = r.attempt := rfl
@[simp] theorem answered_mode (r : RetryState) (a : AttemptAnswer) : (r.answered a).mode = r.mode := rfl
@[simp] theorem answered_phase (r : RetryState) (a : AttemptAnswer) : (r.answered a).phase = .over := rfl
@[simp] theorem answered_answers (r : RetryState) (a : AttemptAnswer) : (r.answered a).answers = r.answers ++ [a] := rfl
@[simp] theorem answered_run (r : RetryState) (a : AttemptAnswer) :
    (r.answered a).run = { r.run with answer := some a } := rfl

@[simp] theorem started_attempt (n : Nat) (x : Result) (r : RetryState) : (r.started n x).attempt = r.attempt := by
  unfold RetryState.started
  dsimp only
  split <;> rfl
@[simp] theorem started_mode (n : Nat) (x : Result) (r : RetryState) : (r.started n x).mode = r.mode := by
  unfold RetryState.started
  dsimp only
  split <;> rfl
@[simp] theorem ended_attempt (m : Option Nat) (c : OutcomeCode) (r : RetryState) : (r.ended m c).attempt = r.attempt := by
  unfold RetryState.ended
  split <;> rfl
@[simp] theorem ended_mode (m : Option Nat) (c : OutcomeCode) (r : RetryState) : (r.ended m c).mode = r.mode := by
  unfold RetryState.ended
  split <;> rfl

/-- What taking an element of EVT can do: pass it over, or end the attempt (R276, R277). -/
theorem seen_cases (m : Option Nat) (n : Nat) (e : EventRecord) (r : RetryState) :
    (∃ k, r.seen m n e = { r with phase := .await k }) ∨
      ∃ c info sent expect, n = 0 ∧ e = .txDone c info sent expect ∧ r.seen m n e = r.ended m c := by
  cases n with
  | succ k => exact .inl ⟨k, rfl⟩
  | zero =>
    cases e with
    | txDone c info sent expect => exact .inr ⟨c, info, sent, expect, rfl, rfl, rfl⟩
    | rxErr c t p g => exact .inl ⟨0, rfl⟩
    | aqOvf v => exact .inl ⟨0, rfl⟩
    | alLinkErr => exact .inl ⟨0, rfl⟩

/-! ### Host commands (R104) -/

/-- As many writes as bytes. -/
@[simp] theorem hostWrite_length (a : U32) (bs : List Byte) : (hostWrite a bs).length = bs.length := by
  induction bs generalizing a with
  | nil => rfl
  | cons b bs ih => simp [hostWrite, ih]

/-- Bytes that fit have addresses in u32. -/
theorem hostFits_iff (a : U32) (n : Nat) : hostFits a n = true ↔ a.toNat + n ≤ 2 ^ 32 ∧ n < 2 ^ 32 := by
  simp [hostFits]

end Sys2Proof.Machine
end

