-- ==== Sys2Proof/Laws/Steps.lean ====
section
/-! SUPPORT. How a property of single instructions becomes a property of the machine's step: a unit's turn is its selected step,
a frame is five turns, and what every instruction and every choice of the environment keeps, every step keeps. -/

namespace Sys2Proof.Machine

/-- Running an instruction, or waiting where there is none. -/
def runOrWait (i : Option Instr) (s : State) : StepOutcome :=
  match i with
  | some i => exec i s
  | none => .next s

/-- AL's turn is its selected step (R99). -/
theorem alTurn_eq (s : State) : alTurn s = runOrWait (select .al s) s := by
  unfold alTurn select
  simp only [unitSteps, List.find?, enabled]
  split
  · rename_i h; simp [h, runOrWait, exec]
  · rename_i h0
    split
    · rename_i h; simp [h0, h, runOrWait, exec]
    · rename_i h1
      split
      · rename_i h; simp [h0, h1, h, runOrWait, exec]
      · rename_i h2
        split
        · rename_i h; simp [h0, h1, h2, h, runOrWait, exec]
        · rename_i h3
          split
          · rename_i h; simp [h0, h1, h2, h3, h, runOrWait, exec]
          · rename_i h4
            split
            · rename_i h; simp [h0, h1, h2, h3, h4, h, runOrWait, exec]
            · rename_i h5
              split
              · rename_i h; simp [h0, h1, h2, h3, h4, h5, h, runOrWait, exec]
              · rename_i h6
                cases h : onAlDiagByte s <;>
                  simp [h0, h1, h2, h3, h4, h5, h6, h, runOrWait, exec, execAlDiagByte]

/-- RX's turn is its selected step (R99). -/
theorem rxTurn_eq (s : State) : rxTurn s = runOrWait (select .rx s) s := by
  unfold rxTurn select
  simp only [unitSteps, List.find?, enabled]
  split
  · rename_i h; simp [h, runOrWait, exec]
  · rename_i h0
    split
    · rename_i h; simp [h0, h, runOrWait, exec]
    · rename_i h1
      split
      · rename_i h; simp [h0, h1, h, runOrWait, exec]
      · rename_i h2
        split
        · rename_i h; simp [h0, h1, h2, h, runOrWait, exec]
        · rename_i h3
          cases h : onRxTimeout s <;> simp [h0, h1, h2, h3, h, runOrWait, exec, execRxTimeout]

/-- A frame row is its header's arrival (R84). -/
theorem exec_of_header {i : Instr} {l : InLink} {h : Header} (hi : i.header = some (l, h)) (s : State) :
    exec i s = receiveFrame l h s := by
  cases i <;> cases hi <;> rfl

/-- What the single steps of AL and RX and an arriving byte keep, a whole frame keeps. -/
theorem receiveFrame_induct (P : State → Prop)
    (unit_keeps : ∀ i u s t, unitOf i = some u → P s → exec i s = .next t → P t)
    (ret_keeps : ∀ s bs, P s → P { s with ret := s.ret ++ bs })
    (inb_keeps : ∀ s bs, P s → P { s with inb := s.inb ++ bs })
    {l : InLink} {h : Header} {s t : State} (hs : P s) (ht : receiveFrame l h s = .next t) : P t := by
  have turn_keeps : ∀ u s t, P s → runOrWait (select u s) s = .next t → P t := by
    intro u s t hs ht
    cases hu : select u s with
    | none =>
      rw [hu] at ht
      cases ht
      exact hs
    | some i =>
      rw [hu] at ht
      exact unit_keeps i u s t (select_enabled hu).1 hs ht
  cases l with
  | ret =>
    refine turns_induct P (fun s t hs ht => turn_keeps .al s t hs ?_) 5 _ t (ret_keeps s h.bytes hs) ht
    rw [← alTurn_eq]
    exact ht
  | inb =>
    refine turns_induct P (fun s t hs ht => turn_keeps .rx s t hs ?_) 5 _ t (inb_keeps s h.bytes hs) ht
    rw [← rxTurn_eq]
    exact ht

/-- What every instruction that is no frame keeps, and the environment keeps, every step keeps. -/
theorem step_induct (P : State → Prop)
    (exec_keeps : ∀ i s t, i.header = none → P s → exec i s = .next t → P t)
    (agenda_keeps : ∀ s a, P s → P { s with agenda := a })
    (ret_keeps : ∀ s bs, P s → P { s with ret := s.ret ++ bs })
    (inb_keeps : ∀ s bs, P s → P { s with inb := s.inb ++ bs })
    (out_keeps : ∀ s, P s → P (linkOut s))
    (pop_keeps : ∀ s c, P s → P (hostPop c s))
    (error_keeps : ∀ s l, P s → P (linkError l s))
    (reset_keeps : ∀ s, P s → P (resetBlock s))
    {s t : State} (hs : P s) (ht : step s = .next t) : P t := by
  have unit_keeps : ∀ i u s t, unitOf i = some u → P s → exec i s = .next t → P t := by
    intro i u s t hu
    refine exec_keeps i s t ?_
    cases i <;> first | rfl | cases hu
  have any_keeps : ∀ i s t, P s → exec i s = .next t → P t := by
    intro i s t hs ht
    cases hi : i.header with
    | none => exact exec_keeps i s t hi hs ht
    | some lh =>
      obtain ⟨l, h⟩ := lh
      rw [exec_of_header hi] at ht
      exact receiveFrame_induct P unit_keeps ret_keeps inb_keeps hs ht
  rw [step_eq] at ht
  cases ha : s.agenda with
  | nil =>
    rw [ha] at ht
    dsimp only at ht
    cases hi : selectAny s with
    | none =>
      rw [hi] at ht
      cases ht
      exact hs
    | some i =>
      rw [hi] at ht
      exact any_keeps i s t hs ht
  | cons item rest =>
    rw [ha] at ht
    have hr := agenda_keeps s rest hs
    cases item with
    | command bs =>
      dsimp only at ht
      cases hd : decode s.cfg.tag2Kind .command bs with
      | error e =>
        rw [hd] at ht
        cases ht
      | ok i =>
        rw [hd] at ht
        exact any_keeps i _ t hr ht
    | frame l h => exact any_keeps _ _ t hr ht
    | turn u =>
      dsimp only at ht
      cases hi : select u { s with agenda := rest } with
      | none =>
        rw [hi] at ht
        cases ht
        exact hr
      | some i =>
        rw [hi] at ht
        exact any_keeps i _ t hr ht
    | tick => exact any_keeps _ _ t hr ht
    | peerByte l b =>
      cases ht
      cases l
      · exact ret_keeps _ [b] hr
      · exact inb_keeps _ [b] hr
    | linkOut =>
      cases ht
      exact out_keeps _ hr
    | hostPop c =>
      cases ht
      exact pop_keeps _ c hr
    | linkErr l =>
      cases ht
      exact error_keeps _ l hr
    | reset =>
      cases ht
      exact reset_keeps _ hr

end Sys2Proof.Machine
end

