-- ==== Sys2Proof/Tests/Slice0.lean ====
section
/-! SUPPORT. Tests of the model: ill-formed terms refused, words of the spec decoded, single steps against the vectors of
spec/95_test_vectors.md (V and P numbers), and for every obligation with hypotheses a case that meets them. -/

namespace Sys2Proof.Tests

open Sys2Proof.Machine

/-! ### Helpers -/

/-- Part of the state a step leads to; none when it stops. -/
def next? {α : Type} (r : StepOutcome) (f : State → α) : Option α :=
  match r with
  | .next s => some (f s)
  | .fault _ => none
  | .refused _ => none

/-- A small configuration: 0x10000 bytes of MEM, a queue of one, a payload of at most 1024 bytes, a receive deadline. -/
def small : Config :=
  { Config.default with
    memBytes := 0x10000, memBytes_ok := by decide, ackqDepth := some 1, ackqDepth_ok := by decide
    maxPayload := 1024, maxPayload_ok := by decide, rxTimeoutTicks := 500, rxTimeoutTicks_ok := by decide }

/-- The default configuration with the nearest table and tag 0x02 as RawBytesWithWake. -/
def other : Config :=
  { Config.default with unpackLut := lutNearest, unpackLut_ok := .inr rfl, tag2Kind := .rawBytesWithWake }

/-- After reset, with the default configuration. -/
def s0 : State := State.reset

/-- After reset, with the small one. -/
def sSmall : State := State.resetWith small 0

/-- TX waiting for the handshake's answer of a 65-byte attempt. -/
def sHsWait : State :=
  { s0 with txState := .hsWait, txTag := 0x01, txParams := ⟨0, 0, 0, 65⟩, totalLen := 65, txIdx := 5, wd := 1 }

/-- TX waiting for chunk 1 of it. -/
def sChunkWait : State :=
  { s0 with
    txState := .chunkWait, txTag := 0x01, txParams := ⟨0, 0, 0, 65⟩, totalLen := 65, txIdx := 5, sent := 64, expect := 1 }

/-- AL about to pop a fifth byte, after `tag 0 0 0`. -/
def sFifth (tag b : Byte) : State := { s0 with alCnt := 4, alHdr := ⟨tag, 0, 0, 0, 0⟩, ret := [b] }

/-- RX about to pop a fifth byte, after `tag 0 0 p2`. -/
def sRxFifth (tag p2 b : Byte) : State := { sSmall with rxCnt := 4, rxHdr := ⟨tag, 0, 0, p2, 0⟩, inb := [b] }

/-- RX inside a payload of two bytes, one stored. -/
def sPay : State :=
  { sSmall with
    rxState := .payload, rxTag := 0x04, rxParams := ⟨0, 2, 0, 2⟩, rxLen := 2, rxGot := 1, rxbuf := [(0, 0x08)]
    inb := [0xE4] }

/-! ### Ill-formed terms -/

theorem test_wf_image8_needs_its_reading : (Instr.frameImage8Bit .inb 2 3).wf .rawBytesWithWake = false := by decide
theorem test_wf_wake_needs_its_reading : (Instr.frameRawBytesWithWake .inb 3).wf .image8Bit = false := by decide
theorem test_wf_ack_is_recognised : (Instr.frameUnrecognised .ret 0xFF ⟨0, 0, 0, 0⟩).wf .image8Bit = false := by decide
theorem test_wf_listed_code_is_valid : (Instr.hostInvalid 0x05).wf .image8Bit = false := by decide
theorem test_wf_matrix_too_long (m : List Byte) (h : 4294836225 < m.length) :
    (Instr.icPack3Seq m).wf .image8Bit = false := decide_eq_false (Nat.not_le.mpr h)
theorem test_wf_bitmap_too_short : (Instr.icUnpack3Seq [0x08] 2 2).wf .image8Bit = false := by decide

/-! ### Words written out from R84 and R96 -/

theorem test_decode_rawBytes :
    decodeFrame .image8Bit .inb ⟨0x01, 0x00, 0x00, 0x00, 0x41⟩ = .frameRawBytes .inb 65 := by decide
theorem test_decode_image8Bit :
    decodeFrame .image8Bit .inb ⟨0x02, 0x00, 0x02, 0x00, 0x03⟩ = .frameImage8Bit .inb 2 3 := by decide
theorem test_decode_rawBytesWithWake :
    decodeFrame .rawBytesWithWake .inb ⟨0x02, 0x00, 0x02, 0x00, 0x03⟩ = .frameRawBytesWithWake .inb 131075 := by decide
theorem test_decode_stringData :
    decodeFrame .image8Bit .ret ⟨0x03, 0x00, 0x01, 0x00, 0x00⟩ = .frameStringData .ret 65536 := by decide
theorem test_decode_image3Bit :
    decodeFrame .image8Bit .inb ⟨0x04, 0x01, 0x2C, 0x01, 0x90⟩ = .frameImage3Bit .inb 300 400 := by decide
theorem test_decode_ack :
    decodeFrame .image8Bit .ret ⟨0xFF, 0x80, 0x00, 0x00, 0x00⟩ = .frameAck .ret 2147483648 := by decide
theorem test_decode_nak :
    decodeFrame .image8Bit .ret ⟨0x00, 0x12, 0x34, 0x56, 0x78⟩ = .frameNak .ret ⟨0x12, 0x34, 0x56, 0x78⟩ := by decide
theorem test_decode_unrecognised :
    decodeFrame .image8Bit .ret ⟨0xFE, 0xFF, 0xFF, 0xFF, 0xFF⟩ =
      .frameUnrecognised .ret 0xFE ⟨0xFF, 0xFF, 0xFF, 0xFF⟩ := by decide
theorem test_decode_fcEncode :
    decodeCommand [0x01, 0x07, 0x01, 0x02, 0x03, 0x04] = .ok (.fcEncode 0x07 ⟨1, 2, 3, 4⟩) := by decide
theorem test_decode_fcDecode :
    decodeCommand [0x02, 0x04, 0x00, 0x02, 0x00, 0x02] = .ok (.fcDecode ⟨0x04, 0, 2, 0, 2⟩) := by decide
/-- P2, step 2, with other dimensions. -/
theorem test_decode_icPack3 :
    decodeCommand [0x03, 0x00, 0x00, 0x01, 0x00, 0x00, 0x02, 0x00, 0x03, 0x00, 0x00, 0x02, 0x00] =
      .ok (.icPack3 0x100 2 3 0x200) := by decide
theorem test_decode_icUnpack3 :
    decodeCommand [0x04, 0x00, 0x00, 0x02, 0x00, 0x00, 0x02, 0x00, 0x03, 0x00, 0x00, 0x03, 0x00] =
      .ok (.icUnpack3 0x200 2 3 0x300) := by decide
/-- P1, step 1. -/
theorem test_decode_txStart :
    decodeCommand [0x05, 0x01, 0x00, 0x00, 0x00, 0x41, 0x00, 0x00, 0x10, 0x00] =
      .ok (.txStart 0x01 ⟨0, 0, 0, 0x41⟩ 0x1000) := by decide
theorem test_decode_rxRestart : decodeCommand [0x06] = .ok .rxRestart := by decide
theorem test_decode_regRead : decodeCommand [0x07, 0x0F] = .ok (.regRead 15) := by decide
/-- P1, the last write. -/
theorem test_decode_memWrite :
    decodeCommand [0x08, 0x00, 0x00, 0x10, 0x40, 0x40] = .ok (.memWrite 0x1040 0x40) := by decide
theorem test_decode_memRead : decodeCommand [0x09, 0x12, 0x34, 0x56, 0x78] = .ok (.memRead 0x12345678) := by decide
theorem test_decode_hostInvalid : decodeCommand [0x0A] = .ok (.hostInvalid 0x0A) := by decide
theorem test_decode_short_command : decodeCommand [0x07] = .error (.operandLength 0x07) := by decide
theorem test_decode_no_command : decodeCommand [] = .error .noCode := by decide
/-- The opcode table's 40-bit pattern of an Ack of 2, and its MEM.READ. -/
theorem test_table_words :
    decodeTableWord 40 0xFF00000002 = some (.frameAck .ret 2) ∧ decodeTableWord 40 0x09 = some (.memRead 0) := by decide
theorem test_encode_txStart :
    encode (.txStart 0x01 ⟨0, 0, 0, 0x41⟩ 0x1000) =
      some (.command, [0x05, 0x01, 0x00, 0x00, 0x00, 0x41, 0x00, 0x00, 0x10, 0x00]) := by decide

/-! ### Frames (V52, V55, V57, V59, V83, V85, V87, V89, V91) -/

theorem test_frame_ack : next? (exec (.frameAck .ret 65) s0) (fun s => (s.aq, s.alCnt, s.ret)) =
    some ([.val 65], 0, []) := by decide
theorem test_frame_ack_on_inb : next? (exec (.frameAck .inb 5) s0) (fun s => (s.dlv, s.aq)) =
    some ([⟨0xFF, ⟨0, 0, 0, 5⟩, []⟩], []) := by decide
theorem test_frame_nak : next? (exec (.frameNak .ret ⟨0x12, 0x34, 0x56, 0x78⟩) s0) (fun s => s.aq) =
    some [.nak] := by decide
theorem test_frame_unrecognised_on_ret :
    next? (exec (.frameUnrecognised .ret 0x07 ⟨1, 2, 3, 4⟩) s0) (fun s => (s.log, s.aq)) =
      some ([⟨0x07, ⟨1, 2, 3, 4⟩⟩], []) := by decide
theorem test_frame_unrecognised_on_inb :
    next? (exec (.frameUnrecognised .inb 0x07 ⟨0, 0, 0, 0⟩) s0) (fun s => (s.rxState, s.evt)) =
      some (.error, [.rxErr .malformedFrame 0x07 ⟨0, 0, 0, 0⟩ 0]) := by decide
theorem test_frame_stringData_on_ret : next? (exec (.frameStringData .ret 3) s0) (fun s => (s.alState, s.aq)) =
    some (.diag, []) := by decide
theorem test_frame_rawBytes_on_inb : next? (exec (.frameRawBytes .inb 3) s0) (fun s => (s.rxState, s.rxLen)) =
    some (.payload, 3) := by decide
theorem test_frame_rawBytes_on_ret : next? (exec (.frameRawBytes .ret 1) s0) (fun s => s.log) =
    some [⟨0x01, ⟨0, 0, 0, 1⟩⟩] := by decide
theorem test_frame_image8Bit : next? (exec (.frameImage8Bit .inb 1 3) s0) (fun s => (s.rxState, s.rxLen)) =
    some (.payload, 3) := by decide
theorem test_frame_rawBytesWithWake :
    next? (exec (.frameRawBytesWithWake .inb 3) (State.resetWith other 0)) (fun s => (s.rxState, s.rxLen)) =
      some (.payload, 3) := by decide
theorem test_frame_image3Bit : next? (exec (.frameImage3Bit .inb 3 3) s0) (fun s => (s.rxState, s.rxLen)) =
    some (.payload, 5) := by decide

/-! ### Codecs (V1, V7, V9, V13 to V17, V25, V37, V42, V48) -/

theorem test_fcEncode : next? (exec (.fcEncode 0x01 ⟨0, 0, 0, 0x41⟩) s0) (fun s => s.result) =
    some (.header ⟨0x01, 0, 0, 0, 0x41⟩) := by decide
theorem test_fcEncode_unknown : next? (exec (.fcEncode 0x07 ⟨0, 0, 0, 0⟩) s0) (fun s => (s.result, s.txOutcome)) =
    some (.malformedFrame, .none) := by decide
theorem test_fcDecode : next? (exec (.fcDecode ⟨0xFF, 0, 0, 0, 2⟩) s0) (fun s => s.result) =
    some (.frame 0xFF ⟨0, 0, 0, 2⟩) := by decide
theorem test_fcDecode_unknown : next? (exec (.fcDecode ⟨0x05, 0, 0, 0, 0⟩) s0) (fun s => s.result) =
    some .malformedFrame := by decide
theorem test_fcCount : next? (exec (.fcCount ⟨0x80, 0, 0, 0⟩) s0) (fun s => s.result) = some (.count 2147483648) := by
  decide
theorem test_fcDims : next? (exec (.fcDims ⟨0x01, 0x2C, 0x01, 0x90⟩) s0) (fun s => s.result) =
    some (.dims 300 400) := by decide
theorem test_fcPaylen : next? (exec (.fcPaylen .image3Bit ⟨0xFF, 0xFF, 0xFF, 0xFF⟩) s0) (fun s => s.result) =
    some (.count 2147418113) := by decide
theorem test_fcPaylen_wake :
    next? (exec (.fcPaylen .tag2 ⟨0, 2, 0, 3⟩) (State.resetWith other 0)) (fun s => s.result) =
      some (.count 131075) := by decide
theorem test_fcKind : next? (exec (.fcKind .tag2) s0) (fun s => s.result) = some (.kind .image8Bit) := by decide
theorem test_icQuant : next? (exec (.icQuant 91) s0) (fun s => s.result) = some (.level 2) := by decide
theorem test_icQuant_next : next? (exec (.icQuant 92) s0) (fun s => s.result) = some (.level 3) := by decide
theorem test_icDequant : next? (exec (.icDequant 4) s0) (fun s => s.result) = some (.byte 145) := by decide
theorem test_icDequant_nearest :
    next? (exec (.icDequant 4) (State.resetWith other 0)) (fun s => s.result) = some (.byte 146) := by decide
theorem test_icPack3Seq : next? (exec (.icPack3Seq [0, 128, 255, 64]) s0) (fun s => s.result) =
    some (.bytes [0x08, 0xE4]) := by decide
theorem test_icPack3Seq_odd : next? (exec (.icPack3Seq [19, 54, 55]) s0) (fun s => s.result) =
    some (.bytes [0x22, 0x40]) := by decide
theorem test_icUnpack3Seq : next? (exec (.icUnpack3Seq [0x2C, 0x6A, 0xAE] 5 1) s0) (fun s => s.result) =
    some (.bytes [36, 218, 109, 182, 182]) := by decide

/-! ### Host operations (V74 to V78, V96, V97, V99 to V105) -/

/-- MEM holds [0, 128, 255, 64] at 0x100. -/
def sImage : State := { s0 with mem := [(0x100, 0), (0x101, 128), (0x102, 255), (0x103, 64)] }

theorem test_icPack3_in_place : next? (exec (.icPack3 0x100 2 2 0x100) sImage) (fun s => (s.mem, s.result)) =
    some ([(0x100, 0x08), (0x101, 0xE4), (0x102, 255), (0x103, 64)], .status .accepted) := by decide
theorem test_icUnpack3 :
    next? (exec (.icUnpack3 0x200 2 2 0x300) { s0 with mem := [(0x200, 0x08), (0x201, 0xE4)] })
        (fun s => s.mem.drop 2) =
      some [(0x300, 0), (0x301, 145), (0x302, 255), (0x303, 72)] := by decide
theorem test_icUnpack3_past_the_end : next? (exec (.icUnpack3 0x200 2 2 0xFFFD) sSmall) (fun s => (s.mem, s.result)) =
    some ([], .status .cmdRejected) := by decide
theorem test_txStart_past_the_end :
    next? (exec (.txStart 0x01 ⟨0, 0, 0, 0x41⟩ 0xFFC0) { sSmall with aq := [.val 3] }) (fun s => (s.aq, s.txState)) =
      some ([.val 3], .idle) := by decide
theorem test_txStart_control_tag :
    next? (exec (.txStart 0xFF ⟨0, 0, 0, 0⟩ 0) { s0 with aq := [.val 3] }) (fun s => (s.aq, s.txOutcome, s.evt)) =
      some ([], .malformedFrame, [.txDone .malformedFrame (.val 0) 0 0]) := by decide
theorem test_rxRestart : next? (exec .rxRestart { s0 with rxState := .error, rxGot := 4, inb := [1, 2] })
    (fun s => (s.rxState, s.rxGot, s.inb)) = some (.hdr, 0, [1, 2]) := by decide
theorem test_rxRestart_rejected : next? (exec .rxRestart sPay) (fun s => (s.rxState, s.result)) =
    some (.payload, .status .cmdRejected) := by decide
theorem test_regRead : next? (exec (.regRead 15) { s0 with aq := [.val 1, .nak] }) (fun s => s.result) =
    some (.register (.num 2)) := by decide
theorem test_regRead_none : next? (exec (.regRead 30) s0) (fun s => s.result) = some (.status .cmdRejected) := by decide
theorem test_memWrite : next? (exec (.memWrite 0x101 7) sImage) (fun s => s.mem) =
    some [(0x100, 0), (0x101, 7), (0x102, 255), (0x103, 64)] := by decide
theorem test_memWrite_past_the_end : next? (exec (.memWrite 0x10000 0) sSmall) (fun s => (s.mem, s.result)) =
    some ([], .status .cmdRejected) := by decide
theorem test_memRead : next? (exec (.memRead 0x101) sImage) (fun s => s.result) = some (.byte 128) := by decide
theorem test_hostInvalid : next? (exec (.hostInvalid 0x00) s0) (fun s => s.result) = some (.status .cmdRejected) := by
  decide

/-! ### The queue (V61a, V61c) -/

theorem test_aqEnq_full : next? (exec (.aqEnq (.val 2)) { sSmall with aq := [.val 1] })
    (fun s => (s.aq, s.aqOvf, s.evt)) = some ([.val 1], true, [.aqOvf (.val 2)]) := by decide
theorem test_aqEnq : next? (exec (.aqEnq (.val 0)) { s0 with aq := [.val 65] }) (fun s => s.aq) =
    some [.val 65, .val 0] := by decide
theorem test_aqDeq : next? (exec .aqDeq { s0 with aq := [.val 65, .val 0] }) (fun s => (s.aq, s.result)) =
    some ([.val 0], .entry (.val 65)) := by decide
theorem test_aqClear_keeps_the_half_frame :
    next? (exec .aqClear { s0 with aq := [.val 7, .nak], alCnt := 4, aqOvf := true }) (fun s => (s.aq, s.alCnt, s.aqOvf)) =
      some ([], 4, true) := by decide

/-! ### TX (V62 to V73, P1, R195) -/

theorem test_txHsByte_fifth :
    next? (exec .txHsByte { s0 with txState := .hsSend, txTag := 1, txParams := ⟨0, 0, 0, 0x41⟩, txIdx := 4 })
        (fun s => (s.out, s.txState, s.txIdx, s.wd)) =
      some ([0x41], .hsWait, 5, 2000) := by decide
theorem test_txHsAck : next? (exec .txHsAck { sHsWait with aq := [.val 65] }) (fun s => (s.aq, s.chunkRem, s.txState)) =
    some ([], 32, .chunkSend) := by decide
theorem test_txHsAck_empty :
    next? (exec .txHsAck { sHsWait with totalLen := 0, aq := [.val 0] }) (fun s => (s.txState, s.evt)) =
      some (.idle, [.txDone .success (.val 0) 0 0]) := by decide
theorem test_txHsNak : next? (exec .txHsNak { sHsWait with aq := [.nak] }) (fun s => (s.aq, s.txOutcome, s.evt)) =
    some ([], .peerNak, [.txDone .peerNak (.val 0) 0 0]) := by decide
theorem test_txHsMismatch : next? (exec .txHsMismatch { sHsWait with aq := [.val 64, .val 65] })
    (fun s => (s.aq, s.txInfo, s.evt)) =
      some ([.val 65], .val 64, [.txDone .protocolMismatch (.val 64) 0 0]) := by decide
theorem test_txHsTimeout : next? (exec .txHsTimeout { sHsWait with wd := 0 }) (fun s => (s.txOutcome, s.txState)) =
    some (.handshakeTimeout, .idle) := by decide
theorem test_txHsTimeout_waits : select .tx sHsWait = none := by decide
theorem test_txChunkByte :
    next? (exec .txChunkByte
        { sChunkWait with txState := .chunkSend, txBase := 0x1000, chunkRem := 1, mem := [(0x1040, 0x40)] })
        (fun s => (s.out, s.sent, s.chunkRem, s.txState, s.wd)) =
      some ([0x40], 65, 0, .chunkWait, 2000) := by decide
theorem test_txChunkAck : next? (exec .txChunkAck { sChunkWait with aq := [.val 1] })
    (fun s => (s.expect, s.chunkRem, s.txState)) = some (2, 1, .chunkSend) := by decide
theorem test_txChunkNak : next? (exec .txChunkNak { sChunkWait with aq := [.nak] }) (fun s => s.evt) =
    some [.txDone .peerNak (.val 0) 64 1] := by decide
theorem test_txChunkMismatch :
    next? (exec .txChunkMismatch { sChunkWait with aq := [.val 4294967295] }) (fun s => (s.txInfo, s.txOutcome)) =
      some (.val 4294967295, .protocolMismatch) := by decide
theorem test_txChunkTimeout : next? (exec .txChunkTimeout sChunkWait) (fun s => (s.txOutcome, s.sent)) =
    some (.chunkAckTimeout, 64) := by decide
theorem test_txLinkErr :
    next? (exec .txLinkErr { sHsWait with errOut := true, aq := [.val 65] }) (fun s => (s.txOutcome, s.txState, s.aq)) =
      some (.linkIoFailure, .idle, [.val 65]) := by decide
/-- V70: the queue wins over the expired watchdog. -/
theorem test_queue_before_watchdog : select .tx { sChunkWait with aq := [.val 1] } = some .txChunkAck := by decide

/-! ### AL (V52 to V61b) -/

theorem test_alHdrByte : next? (exec .alHdrByte { s0 with ret := [0xFF, 0x00] }) (fun s => (s.alCnt, s.alHdr, s.ret)) =
    some (1, ⟨0xFF, 0, 0, 0, 0⟩, [0x00]) := by decide
theorem test_alFrameAck : next? (exec .alFrameAck (sFifth 0xFF 0x41)) (fun s => (s.aq, s.alHdr, s.alCnt)) =
    some ([.val 65], ⟨0xFF, 0, 0, 0, 0x41⟩, 0) := by decide
theorem test_alFrameNak : next? (exec .alFrameNak (sFifth 0x00 0x78)) (fun s => (s.aq, s.alState)) =
    some ([.nak], .hdr) := by decide
theorem test_alFrameStr : next? (exec .alFrameStr (sFifth 0x03 0x03)) (fun s => (s.aq, s.alState)) =
    some ([], .diag) := by decide
theorem test_alFrameDropUnknown : next? (exec .alFrameDropUnknown (sFifth 0x07 0x04)) (fun s => s.log) =
    some [⟨0x07, ⟨0, 0, 0, 0x04⟩⟩] := by decide
theorem test_alFrameDropPayloadKind : next? (exec .alFrameDropPayloadKind (sFifth 0x02 0x01)) (fun s => (s.log, s.ret)) =
    some ([⟨0x02, ⟨0, 0, 0, 0x01⟩⟩], []) := by decide
theorem test_alDiagByte : next? (exec .alDiagByte { s0 with alState := .diag, ret := [0x4F, 0x0A] })
    (fun s => (s.diag, s.alState)) = some ([(0x4F, false)], .diag) := by decide
theorem test_alDiagByte_last : next? (exec .alDiagByte { s0 with alState := .diag, ret := [0x0A, 0xFF] })
    (fun s => (s.diag, s.alState, s.ret)) = some ([(0x0A, true)], .hdr, [0xFF]) := by decide
theorem test_alLinkErr : next? (exec .alLinkErr { s0 with errRet := true, alCnt := 2, ret := [1] })
    (fun s => (s.alState, s.alLinkErr, s.alCnt, s.ret, s.evt)) = some (.error, true, 2, [1], [.alLinkErr]) := by decide

/-! ### RX (V83 to V98) and TICK (V107, V108) -/

theorem test_rxHdrByte : next? (exec .rxHdrByte { sSmall with inb := [0x04, 0x00] })
    (fun s => (s.rxCnt, s.rxHdr, s.rxWd)) = some (1, ⟨0x04, 0, 0, 0, 0⟩, 500) := by decide
theorem test_rxHdrDone_too_long : next? (exec .rxHdrDone (sRxFifth 0x01 0x04 0x01))
    (fun s => (s.rxState, s.rxOutcome, s.rxLen)) = some (.error, .malformedFrame, 1025) := by decide
theorem test_rxHdrDone_longest : next? (exec .rxHdrDone (sRxFifth 0x01 0x04 0x00))
    (fun s => (s.rxState, s.rxLen, s.rxWd)) = some (.payload, 1024, 500) := by decide
theorem test_rxPayByte : next? (exec .rxPayByte sPay) (fun s => (s.rxState, s.rxGot, s.dlv)) =
    some (.hdr, 2, [⟨0x04, ⟨0, 2, 0, 2⟩, [0, 145, 255, 72]⟩]) := by decide
/-- V94 and D6: a byte that leaves the frame incomplete reloads the deadline, the last one does not. -/
theorem test_rxPayByte_deadline :
    next? (exec .rxPayByte { sPay with rxGot := 0, rxWd := 7 }) (fun s => (s.rxGot, s.rxWd)) = some (1, 500) ∧
      next? (exec .rxPayByte { sPay with rxWd := 7 }) (fun s => (s.rxGot, s.rxWd)) = some (2, 7) := by decide
theorem test_rxTimeout : next? (exec .rxTimeout { sPay with inb := [] }) (fun s => (s.rxState, s.evt, s.dlv)) =
    some (.error, [.rxErr .rxTimeout 0x04 ⟨0, 2, 0, 2⟩ 1], []) := by decide
theorem test_rxLinkErr : next? (exec .rxLinkErr { sPay with errInb := true }) (fun s => (s.rxOutcome, s.rxState, s.inb)) =
    some (.linkIoFailure, .error, [0xE4]) := by decide
theorem test_tick_idle : next? (exec .tick { s0 with wd := 7 }) (fun s => s.wd) = some 7 := by decide
theorem test_tick_waiting : next? (exec .tick sHsWait) (fun s => s.wd) = some 0 := by decide

/-! ### The step and the table's words -/

theorem test_step_runs_a_table_word :
    next? (step (s0.withFetchWord 40 0xFF00000002)) (fun s => s.aq) = some [.val 2] := by decide
theorem test_step_runs_a_table_command :
    next? (step (s0.withFetchWord 16 0x0C07)) (fun s => s.result) = some (.register (.num 0)) := by decide

/-! ### Cases that meet the hypotheses of the statements -/

/-- StepRunsTheDecodedInstruction: a command, a frame, a command that is none. -/
theorem witness_step_decoded :
    decode s0.cfg.tag2Kind .command [0x06] = .ok .rxRestart ∧
      decode s0.cfg.tag2Kind (.link .ret) (Header.bytes ⟨0xFF, 0, 0, 0, 2⟩) = .ok (.frameAck .ret 2) ∧
      decode s0.cfg.tag2Kind .command [0x06, 0x00] = .error (.operandLength 0x06) := by decide

/-- The same and every statement about an item of the agenda: there are states whose next choice it is. -/
theorem witness_agenda (item : AgendaItem) : { s0 with agenda := [item] }.agenda = item :: [] := rfl

/-- StepGivesTheTurnToAUnit: a unit with a step, one without, and each case of the empty agenda. -/
theorem witness_step_turn :
    select .al (sFifth 0xFF 1) = some .alFrameAck ∧ select .al s0 = none ∧ s0.agenda = [] ∧
      (select .al { s0 with txState := .hsSend } = none ∧ select .tx { s0 with txState := .hsSend } = some .txHsByte) ∧
      (select .al sPay = none ∧ select .tx sPay = none ∧ select .rx sPay = some .rxPayByte) ∧
      (select .al s0 = none ∧ select .tx s0 = none ∧ select .rx s0 = none) := by decide

/-- ResetLeavesTheListedValues: the reset input in a state that is not the reset state. -/
theorem witness_reset :
    next? (step { sPay with agenda := [.reset] }) (fun s => (s.rxState, s.rxGot, s.inb)) = some (.hdr, 0, []) := by decide

/-- DecodeInvertsEncode: a frame and a command. -/
theorem witness_decode_encode :
    (Instr.frameImage8Bit .inb 65535 0).wf .image8Bit = true ∧
      encode (.frameImage8Bit .inb 65535 0) = some (.link .inb, [0x02, 0xFF, 0xFF, 0, 0]) ∧
      (Instr.hostInvalid 0xFF).wf .image8Bit = true ∧ encode (.hostInvalid 0xFF) = some (.command, [0xFF]) := by decide

/-- EncodeGivesBackTheDecodedBytes: the first and the last listed code, the unlisted ones next to them. -/
theorem witness_encode_decode :
    decodeCommand [0x01, 0xFF, 0, 0, 0, 9] = .ok (.fcEncode 0xFF ⟨0, 0, 0, 9⟩) ∧
      decodeCommand [0x09, 0, 0, 0, 1] = .ok (.memRead 1) ∧ decodeCommand [0x00, 0x01] = .ok (.hostInvalid 0x00) ∧
      decodeCommand [0x0A] = .ok (.hostInvalid 0x0A) := by decide

/-- The two frame codec statements: a tag in the set, a tag outside. -/
theorem witness_tags :
    (0xFF : Byte) ∈ ([0x00, 0x01, 0x02, 0x03, 0x04, 0xFF] : List Byte) ∧
      (0x05 : Byte) ∉ ([0x00, 0x01, 0x02, 0x03, 0x04, 0xFF] : List Byte) := by decide

/-- QuantiseRescaleAndTheirError: both tables are some configuration's. -/
theorem witness_tables : s0.cfg.unpackLut = lutTruncating ∧ other.unpackLut = lutNearest := ⟨rfl, rfl⟩

/-- PackPutsTwoLevelsInAByte: the last byte of an odd matrix. -/
theorem witness_pack : (icPack3Seq [19, 54, 55]).length = 2 ∧ 1 < (icPack3Seq [19, 54, 55]).length := by decide

/-- UnpackRescalesEachLane: both lanes, the last byte of an odd bitmap, and a bitmap that is too short. -/
theorem witness_unpack :
    (icUnpack3Seq lutTruncating [0x2C, 0x6A] 3 1).length = 3 ∧ [(0x2C : Byte), 0x6A][0 / 2]? = some 0x2C ∧
      [(0x2C : Byte), 0x6A][1 / 2]? = some 0x2C ∧ [(0x2C : Byte), 0x6A][2 / 2]? = some 0x6A ∧
      [(0x2C : Byte)][1 / 2]? = some 0x2C := by
  exact ⟨by simp [icUnpack3Seq], rfl, rfl, rfl, rfl⟩

/-- The two round-trip statements: an odd and an empty matrix. -/
theorem witness_round_trip :
    [(19 : Byte), 54, 55].length = (1 : U16).toNat * (3 : U16).toNat ∧
      ([] : List Byte).length = (0 : U16).toNat * (7 : U16).toNat ∧
      [(0x19 : Byte), 0xF5].length = ceilDiv ((1 : U16).toNat * (3 : U16).toNat) 2 := by decide

/-- HostPackWritesTheBitmap and HostUnpackWritesTheMatrix: each bound met exactly and passed by one. -/
theorem witness_ranges :
    (0xFFFC : U32).toNat + 2 * 2 ≤ small.memBytes ∧ small.memBytes < (0xFFFD : U32).toNat + 2 * 2 ∧
      (0xFFFE : U32).toNat + (2 * 2 + 1) / 2 ≤ small.memBytes ∧
      small.memBytes < (0xFFFF : U32).toNat + (2 * 2 + 1) / 2 := by decide

/-- QueueOperationsActOnTheQueue: no bound, room, a full queue. -/
theorem witness_queue :
    (∀ d, s0.cfg.ackqDepth = some d → s0.aq.length < d) ∧ (∀ d, sSmall.cfg.ackqDepth = some d → sSmall.aq.length < d) ∧
      sSmall.cfg.ackqDepth = some 1 ∧ 1 ≤ { sSmall with aq := [.nak] }.aq.length ∧
      { s0 with aq := [.val 65] }.aq = .val 65 :: [] := by
  refine ⟨fun d h => ?_, fun d h => ?_, rfl, by decide, rfl⟩
  · cases h
  · cases h
    decide

/-- QueueKeepsTheOrderOfEntries: a full queue of one, an unbounded queue, and the last entry of a queue of two. -/
theorem witness_queue_order :
    QueueInv { sSmall with aq := [.nak] } ∧ QueueInv { s0 with aq := [.val 1, .val 1] } ∧
      { s0 with aq := [.nak, .val 1] }.aq[1]? = some (.val 1) := by
  refine ⟨fun d h => ?_, fun d h => ?_, rfl⟩
  · cases h
    decide
  · cases h

/-- MemoryOperationsReadAndWriteOneByte: the last address and the first past it. -/
theorem witness_memory : (0xFFFF : U32).toNat < sSmall.cfg.memBytes ∧ sSmall.cfg.memBytes ≤ (0x10000 : U32).toNat := by
  decide

/-- HostOperationsChangeOnlyWhatTheyMay: an unlisted code with a byte after it, an operation that is rejected, and one
that writes MEM. -/
theorem witness_host :
    { s0 with agenda := [.command [0x0A, 1]] }.agenda = .command (0x0A :: [1]) :: [] ∧ 0x0A ≤ (0x0A : Byte).toNat ∧
    (Instr.memWrite 0x10000 0).command = some [0x08, 0, 1, 0, 0, 0] ∧
      next? (exec (.memWrite 0x10000 0) sSmall) (fun s => s.result) = some (.status .cmdRejected) ∧
      next? (exec (.memWrite 0xFFFF 0) sSmall) (fun s => s.mem) = some [(0xFFFF, 0)] := by decide

/-- StartLoadsTheSession and StartIsRejectedOrMalformed: accepted at the bound, past it, busy, a control tag. -/
theorem witness_start :
    sSmall.txState = .idle ∧ Tag.ofByte 0x01 = some .rawBytes ∧
      (0xFFC0 : U32).toNat + fcPaylen sSmall.cfg.tag2Kind .rawBytes ⟨0, 0, 0, 0x40⟩ ≤ sSmall.cfg.memBytes ∧
      sSmall.cfg.memBytes < (0xFFC0 : U32).toNat + fcPaylen sSmall.cfg.tag2Kind .rawBytes ⟨0, 0, 0, 0x41⟩ ∧
      sHsWait.txState ≠ .idle ∧ (0x00 : Byte) ∉ ([0x01, 0x02, 0x03, 0x04] : List Byte) := by decide

/-- HandshakeByteIsPushed: the first byte and the fifth. -/
theorem witness_hs_byte :
    ({ s0 with txState := .hsSend, txTag := 1, txIdx := 4 } : State).txState = .hsSend ∧ s0.errOut = false ∧
      Tag.ofByte 0x01 = some .rawBytes ∧
      [(1 : Byte), 0, 0, 0, 0x41][(0 : BitVec 3).toNat]? = some 1 ∧
      [(1 : Byte), 0, 0, 0, 0x41][(4 : BitVec 3).toNat]? = some 0x41 := by decide

/-- MatchingAckIsAccepted, NakOrWrongAckEndsTheAttempt, TimeoutOrLinkErrorEndsTheAttempt: every clause's head or none. -/
theorem witness_waits :
    sHsWait.txState = .hsWait ∧ sHsWait.errOut = false ∧ { sHsWait with aq := [.val 65] }.aq = [.val sHsWait.totalLen] ∧
      sHsWait.totalLen ≠ 0 ∧ { sHsWait with totalLen := 0, aq := [.val 0] }.totalLen = 0 ∧
      sChunkWait.txState = .chunkWait ∧ { sChunkWait with aq := [.val 1] }.aq = [.val sChunkWait.expect] ∧
      sChunkWait.sent ≠ sChunkWait.totalLen ∧ { sChunkWait with sent := 65 }.sent = sChunkWait.totalLen ∧
      (66 : U32) ≠ sHsWait.totalLen ∧ (4294967295 : U32) ≠ sChunkWait.expect ∧
      sChunkWait.aq = [] ∧ sChunkWait.wd = 0 ∧ { sHsWait with wd := 0 }.wd = 0 ∧
      { sHsWait with errOut := true }.errOut = true := by decide

/-- TX pushing the last byte of a two-byte payload at the end of a small MEM. -/
def sChunkSend : State :=
  { sSmall with
    txState := .chunkSend, txTag := 0x01, txParams := ⟨0, 0, 0, 2⟩, txBase := 0xFFFE, totalLen := 2, txIdx := 5
    chunkRem := 2, mem := [(0xFFFE, 7), (0xFFFF, 8)] }

/-- PayloadByteIsPushed and ChunkIsPushedInOrder: a chunk that ends at the last byte of MEM. -/
theorem witness_chunk :
    sChunkSend.txState = .chunkSend ∧ sChunkSend.errOut = false ∧ sChunkSend.chunkRem ≠ 1 ∧
      sChunkSend.txBase.toNat + sChunkSend.sent.toNat + 2 ≤ sChunkSend.cfg.memBytes ∧
      sChunkSend.chunkRem.toNat = 2 ∧ { sChunkSend with chunkRem := 1, sent := 1 }.chunkRem = 1 ∧
      ({ sChunkSend with sent := 1 } : State).txBase.toNat + 1 < sChunkSend.cfg.memBytes := by decide

/-- ImpossibleAccessesStop: a state for each of the four. -/
theorem witness_impossible :
    Tag.ofByte 0x07 = none ∧ Tag.ofByte 0x01 ≠ none ∧ 5 ≤ (5 : BitVec 3).toNat ∧
      sSmall.cfg.memBytes ≤ (0xFFFF : U32).toNat + (1 : U32).toNat ∧ sPay.inb ≠ [] ∧
      sPay.cfg.maxPayload ≤ (1024 : U32).toNat := by decide

/-- The session of the states below is that of an accepted TX.START. -/
theorem session_of {s : State} (h1 : s.txTag = 0x01) (h2 : s.totalLen.toNat = (fcCount s.txParams).toNat)
    (h3 : s.txBase.toNat + s.totalLen.toNat ≤ s.cfg.memBytes) (h4 : s.txOutcome = .none) (h5 : s.txInfo = .val 0) :
    TxSession s :=
  ⟨⟨.rawBytes, by rw [h1]; decide, h2⟩, h3, h4, h5⟩

/-- TransmitterInvariantIsKept, FiveTurnsPushTheHeader and NoStepFaults: every running state of TX has a case. -/
theorem witness_tx_inv :
    TxInv { s0 with txState := .hsSend, txTag := 0x01, txParams := ⟨0, 0, 0, 65⟩, totalLen := 65 } ∧ TxInv sHsWait ∧
      TxInv sChunkSend ∧ TxInv { sChunkSend with txState := .chunkWait, sent := 2, chunkRem := 0 } := by
  refine ⟨⟨session_of ?_ ?_ ?_ ?_ ?_, ?_⟩, ⟨session_of ?_ ?_ ?_ ?_ ?_, ?_⟩, ⟨session_of ?_ ?_ ?_ ?_ ?_, ?_⟩,
    ⟨session_of ?_ ?_ ?_ ?_ ?_, ?_⟩⟩ <;> decide

/-- AcknowledgedTransferCompletes: 65 bytes, three chunks (P1). -/
theorem witness_transfer :
    { sHsWait with aq := [.val 65, .val 0, .val 1, .val 2] }.aq =
      .val sHsWait.totalLen ::
        ((List.range (ceilDiv sHsWait.totalLen.toNat sHsWait.cfg.chunkSize)).map
          fun k => Entry.val (BitVec.ofNat 32 k)) ++ [] := by decide

/-- TransmitterFollowsItsTable, OnlyResetClearsStickyState, ListenerAndReceiverFollowTheirTables: a step that moves. -/
theorem witness_moves :
    next? (step { sHsWait with aq := [.val 65], agenda := [.turn .tx] }) (fun s => (s.txState, s.epoch)) =
        some (.chunkSend, sHsWait.epoch) ∧
      next? (step { sFifth 0x03 1 with agenda := [.turn .al] }) (fun s => (s.alState, s.epoch)) =
        some (.diag, s0.epoch) ∧
      next? (step { sRxFifth 0x01 0 1 with agenda := [.turn .rx] }) (fun s => (s.rxState, s.epoch)) =
        some (.payload, s0.epoch) ∧
      next? (step { s0 with agenda := [.command [0x05, 0x01, 0, 0, 0, 0x41, 0, 0, 0x10, 0]] })
        (fun s => (s.txState, s.epoch)) = some (.hsSend, s0.epoch) ∧
      next? (step { sPay with rxState := .error, agenda := [.command [0x06]] }) (fun s => (s.rxState, s.epoch)) =
        some (.hdr, s0.epoch) := by decide

/-- WatchdogExpiresAfterItsTicks: before and at the last tick. -/
theorem witness_watchdog :
    txWaiting sHsWait = true ∧ sHsWait.errOut = false ∧ sHsWait.aq = [] ∧ 0 < sHsWait.wd.toNat ∧ sHsWait.wd.toNat ≤ 1 ∧
      next? (Host.Core.run Sys2Proof.core 1 { sHsWait with agenda := List.replicate 1 .tick })
        (fun s : State => s.wd) = some 0 := by decide

/-- SelectionIsTheOneEnabledStep and PrioritiesAndWaiting: enabled steps beside a failed link, and one not enabled. -/
theorem witness_priorities :
    (unitOf .txLinkErr = some .tx ∧ enabled .txLinkErr { sHsWait with errOut := true } = true) ∧
      (unitOf .alLinkErr = some .al ∧ enabled .alLinkErr { s0 with errRet := true } = true) ∧
      (unitOf .rxLinkErr = some .rx ∧ enabled .rxLinkErr { sPay with errInb := true } = true) ∧
      { sHsWait with aq := [.nak] }.aq ≠ [] ∧ sPay.inb ≠ [] ∧ enabled .txHsByte s0 = false ∧ s0.aq = [] := by decide

/-- ListenerBytesAndLinkError: the first and the fourth byte, a line's byte and its end, a failed link. -/
theorem witness_listener :
    s0.alState = .hdr ∧ s0.alCnt.toNat < 4 ∧ (3 : BitVec 3).toNat < 4 ∧ s0.errRet = false ∧
      { s0 with ret := [1] }.ret = [1] ∧ (0x4F : Byte) ≠ s0.cfg.diagEol ∧ (0x0A : Byte) = s0.cfg.diagEol ∧
      { s0 with alState := .diag }.alState = .diag ∧ s0.alState ≠ .error ∧ { s0 with errRet := true }.errRet = true := by
  decide

/-- CompletedHeaderIsActedOn: a fifth byte after each kind of tag. -/
theorem witness_fifth :
    (sFifth 0xFF 1).alState = .hdr ∧ (sFifth 0xFF 1).alCnt = 4 ∧ (sFifth 0xFF 1).errRet = false ∧
      (sFifth 0xFF 1).ret = [1] ∧ (sFifth 0xFF 1).alHdr.h0 = 0xFF ∧ (sFifth 0x00 1).alHdr.h0 = 0x00 ∧
      (sFifth 0x03 1).alHdr.h0 = 0x03 ∧ (sFifth 0x04 1).alHdr.h0 ∈ ([0x01, 0x02, 0x04] : List Byte) ∧
      (sFifth 0x05 1).alHdr.h0 ∉ ([0x00, 0x01, 0x02, 0x03, 0x04, 0xFF] : List Byte) := by decide

/-- FrameOnTheReturnLink and FrameOnTheInboundLink: frames of each kind, at the boundaries of the length. -/
theorem witness_frames :
    (Instr.frameAck .ret 7).header = some (.ret, ⟨0xFF, 0, 0, 0, 7⟩) ∧
      (Instr.frameNak .ret ⟨1, 2, 3, 4⟩).header = some (.ret, ⟨0x00, 1, 2, 3, 4⟩) ∧
      (Instr.frameStringData .ret 3).header = some (.ret, ⟨0x03, 0, 0, 0, 3⟩) ∧
      (Instr.frameRawBytes .ret 1025).header = some (.ret, ⟨0x01, 0, 0, 4, 1⟩) ∧
      s0.ret = [] ∧ s0.alCnt = 0 ∧ sSmall.inb = [] ∧ sSmall.rxCnt = 0 ∧ sSmall.rxState = .hdr ∧ sSmall.errInb = false ∧
      (Instr.frameUnrecognised .inb 7 ⟨0, 0, 0, 0⟩).header = some (.inb, ⟨7, 0, 0, 0, 0⟩) ∧ Tag.ofByte 7 = none ∧
      fcPaylen .image8Bit .rawBytes ⟨0, 0, 4, 1⟩ = sSmall.cfg.maxPayload + 1 ∧
      fcPaylen .image8Bit .rawBytes ⟨0, 0, 4, 0⟩ = sSmall.cfg.maxPayload ∧
      fcPaylen .image8Bit .image3Bit ⟨0, 0, 0, 7⟩ = 0 := by decide

/-- ReceiverHeaderByteAndStops: the fourth byte, both ways to be inside a frame, a failed link. -/
theorem witness_rx_stops :
    sSmall.rxState = .hdr ∧ (3 : BitVec 3).toNat < 4 ∧ sSmall.errInb = false ∧ 0 < sSmall.cfg.rxTimeoutTicks ∧
      ({ sSmall with rxCnt := 1 } : State).rxCnt ≠ 0 ∧ sPay.rxState = .payload ∧ { sPay with inb := [] }.inb = [] ∧
      sPay.rxWd = 0 ∧ sPay.rxState ≠ .error ∧ { sPay with errInb := true }.errInb = true := by decide

/-- ReceiverDispatchesOnTheHeader: an unknown tag, and lengths 0, 1024 and 1025 against a bound of 1024. -/
theorem witness_rx_dispatch :
    (sRxFifth 7 0 0).rxState = .hdr ∧ (sRxFifth 7 0 0).rxCnt = 4 ∧ (sRxFifth 7 0 0).errInb = false ∧
      (sRxFifth 7 0 0).inb = [0] ∧ (sRxFifth 7 0 0).rxHdr.h0 ∉ ([0x00, 0x01, 0x02, 0x03, 0x04, 0xFF] : List Byte) ∧
      Tag.ofByte (sRxFifth 1 4 1).rxHdr.h0 = some .rawBytes ∧
      (sRxFifth 1 4 1).cfg.maxPayload < fcPaylen .image8Bit .rawBytes ⟨0, 0, 4, 1⟩ ∧
      0 = fcPaylen .image8Bit .rawBytes ⟨0, 0, 0, 0⟩ ∧
      fcPaylen .image8Bit .rawBytes ⟨0, 0, 4, 0⟩ ≤ (sRxFifth 1 4 0).cfg.maxPayload := by decide

/-- PayloadByteIsStoredAndTheLastDelivers: the last byte, one before it. -/
theorem witness_payload :
    sPay.rxState = .payload ∧ sPay.errInb = false ∧ sPay.inb = [0xE4] ∧ sPay.rxGot.toNat < sPay.cfg.maxPayload ∧
      sPay.rxGot + 1 = sPay.rxLen ∧ { sPay with rxGot := 0 }.rxGot + 1 ≠ sPay.rxLen := by decide

/-- RestartResumesAStoppedReceiver: running and stopped. -/
theorem witness_restart : sPay.rxState ≠ .error ∧ { sPay with rxState := .error }.rxState = .error := by decide

/-- WholeFrameIsDelivered: a packed image with its two bytes, and the byte after it. -/
theorem witness_whole_frame :
    sSmall.rxState = .hdr ∧ sSmall.rxCnt = 0 ∧ sSmall.errInb = false ∧ Tag.ofByte 0x04 = some .image3Bit ∧
      [(0x08 : Byte), 0xE4].length = fcPaylen sSmall.cfg.tag2Kind .image3Bit (Header.params ⟨0x04, 0, 2, 0, 2⟩) ∧
      [(0x08 : Byte), 0xE4].length ≤ sSmall.cfg.maxPayload ∧
      { sSmall with inb := [0x04, 0, 2, 0, 2, 0x08, 0xE4, 0xAA] }.inb =
        Header.bytes ⟨0x04, 0, 2, 0, 2⟩ ++ [0x08, 0xE4] ++ [0xAA] := by decide

/-- ReceiverInvariantIsKept and NoStepFaults: a receiver inside a payload, and one that has stopped. -/
theorem witness_rx_inv : RxInv sPay ∧ RxInv { sPay with rxState := .error, rxOutcome := .rxTimeout } := by
  refine ⟨⟨rfl, rfl, by decide, by decide, ⟨.image3Bit, by decide, by decide⟩, ?_⟩, by decide, .inr (.inr rfl)⟩
  decide

/-- MemoryQueueAndListenerInvariantsAreKept: written memories, a full queue, a stopped listener, a failed attempt. -/
theorem witness_other_inv :
    MemoryInv { sPay with mem := [(0, 1), (0xFFFF, 2)] } ∧
      AlInv { s0 with alState := .error, alLinkErr := true, errRet := true, alCnt := 4 } ∧
      QueueInv { sSmall with aq := [.nak] } ∧ TxOutcomeInv { s0 with txOutcome := .linkIoFailure } := by
  refine ⟨⟨?_, ?_, ?_, ?_⟩, ⟨?_, ?_, ?_, ?_⟩, witness_queue_order.1, ?_, ?_⟩ <;> decide

/-- UnitsWriteOnlyWhatTheyOwn: a step of each unit that takes effect. -/
theorem witness_owners :
    unitOf .txHsAck = some .tx ∧ unitOf .alFrameAck = some .al ∧ unitOf .rxPayByte = some .rx ∧
      next? (exec .txHsAck { sHsWait with aq := [.val 65] }) (fun s => s.txState) = some .chunkSend ∧
      next? (exec .alFrameAck (sFifth 0xFF 1)) (fun s => s.aq) = some [.val 1] ∧
      next? (exec .rxPayByte sPay) (fun s => s.rxState) = some .hdr := by decide

/-- RetryControllerConverges: one failure, without a limit and with a limit of two (V109 to V111). -/
theorem witness_retry :
    (∀ c ∈ [OutcomeCode.peerNak], c = .handshakeTimeout ∨ c = .peerNak) ∧
      (∀ m, some 2 = some m → [OutcomeCode.peerNak].length + 1 ≤ m) ∧ some 2 = some ([OutcomeCode.peerNak].length + 1) ∧
      rcContinuous none 0 [.done .peerNak, .done .handshakeTimeout, .done .success] = ⟨3, 2, some (.done .success)⟩ := by
  refine ⟨by decide, fun m h => ?_, rfl, by decide⟩
  cases h
  decide

/-- A call of RC.CONTINUOUS at its first TX.START, with an attempt that ends at once (R193). -/
def rcBad : RetryState := { RetryState.begin [] ⟨0xFF, ⟨0, 0, 0, 0⟩, 0⟩ .continuous with phase := .start }

/-- Part of the state HOST and block come to. -/
def host? {α : Type} (o : HostOutcome) (f : RetryState × State → α) : Option α :=
  match o with
  | .next p => some (f p)
  | .fault _ => none
  | .refused _ => none

/-- RetryLoopIssuesStartAndAwaitsDone: each phase, an older element of EVT, a recoverable outcome and its limit. -/
theorem witness_retry_turn :
    rcBad.phase = .start ∧ next? (exec (.txStart 0xFF ⟨0, 0, 0, 0⟩ 0) s0) (fun s => s.result) =
        some (.status .accepted) ∧
      next? (exec (.txStart 0xFF ⟨0, 0, 0, 0⟩ 0) sHsWait) (fun s => s.result) = some (.status .cmdRejected) ∧
      { rcBad with phase := .await 1 }.phase = .await (0 + 1) ∧ { rcBad with phase := .await 0 }.phase = .await 0 ∧
      { s0 with evt := [.alLinkErr] }.evt = [.alLinkErr] ∧ rcBad.mode = .continuous ∧
      { s0 with evt := [.txDone .peerNak (.val 0) 0 0] }.evt = .txDone .peerNak (.val 0) 0 0 :: [] ∧
      s0.cfg.maxAttempts ≠ some (rcBad.answers.length + 1) := by decide

/-- RetryLoopAnswersAsItsScript: a fatal outcome behind an older TX_DONE, which is not taken for it; and R192's refusal. -/
theorem witness_retry_run :
    host? (retryRun [.host, .host, .host, .host] (RetryState.begin [] rcBad.attempt .continuous)
        { s0 with evt := [.txDone .success (.val 0) 0 0] }) (fun p => (p.1.phase, p.1.run, p.2.evt)) =
        some (.over, ⟨1, 0, some (.done .malformedFrame)⟩, []) ∧
      host? (retryRun [.host, .host] (RetryState.begin [] rcBad.attempt .single) sHsWait)
        (fun p => (p.1.phase, p.1.run)) = some (.over, ⟨1, 0, some .rejected⟩) := by decide

/-- A recoverable outcome, the backoff with a move of the machine in it, and the second TX.START. -/
theorem test_retry_after_a_nak :
    host? (retryRun [.machine, .host, .machine, .host, .host]
        { RetryState.begin [] ⟨0x01, ⟨0, 0, 0, 65⟩, 0x1000⟩ .continuous with phase := .await 0 }
        { sHsWait with aq := [.nak] }) (fun p => (p.1.phase, p.1.answers, p.1.run.waits, p.2.txState)) =
      some (.await 0, [.done .peerNak], 1, .hsSend) := by decide

/-- HostCommandsExpandToOperations: sizes that fit exactly and that do not, and an operation of a command. -/
theorem witness_host_commands :
    s0.cfg.tag2Kind = .image8Bit ∧ other.tag2Kind ≠ .image8Bit ∧
      [(0 : Byte), 128].length = (1 : U16).toNat * (2 : U16).toNat ∧
      (0xFFFFFFFE : U32).toNat + [(0 : Byte), 128].length ≤ 2 ^ 32 ∧
      2 ^ 32 < (0xFFFFFFFF : U32).toNat + [(0 : Byte), 128].length ∧
      [(0 : Byte), 128].length ≠ (1 : U16).toNat * (3 : U16).toNat ∧
      (Instr.memWrite 0xFFFFFFFF 7).wf .image8Bit = true ∧ (Instr.memWrite 0xFFFFFFFF 7).command ≠ none ∧
      next? (exec (.memWrite 0xFFFFFFFF 7) s0) (fun s => s.mem) = some [(0xFFFFFFFF, 7)] ∧
      next? (exec (.memWrite 0xFFFFFFFF 7) sSmall) (fun s => s.result) = some (.status .cmdRejected) ∧
      ({ rcBad with phase := .prepare [.memWrite 0 7] } : RetryState).phase = .prepare (.memWrite 0 7 :: []) := by decide

/-- HostCommandsExpandToOperations: the shortest list no u32 counts. -/
theorem witness_host_count : 2 ^ 32 ≤ (List.replicate (2 ^ 32) (0 : Byte)).length := by
  rw [List.length_replicate]

end Sys2Proof.Tests
end

/-! PROOFS. Reset (spec/10_state.md R37, R38; spec/70_reset_and_hazards.md R330): every state that reset leaves is a
`resetTo`, with the listed values and the invariants. The lemmas hold for any choices still to come, so that they serve
`State.resetWith`, `State.reset` and `resetBlock` alike. -/

namespace Sys2Proof.Machine

/-! ### The states reset leaves -/

/-- What reset leaves: the values of R37 and R38 under configuration `c`, as the `n`-th epoch, with the choices `agenda`
still to come. -/
def resetTo (c : Config) (n : Nat) (agenda : List AgendaItem) : State :=
  { State.resetWith c n with agenda := agenda }

theorem resetWith_eq_resetTo (c : Config) (n : Nat) : State.resetWith c n = resetTo c n [] := rfl

theorem reset_eq_resetTo : State.reset = resetTo Config.default 0 [] := rfl

theorem resetBlock_eq_resetTo (s : State) : resetBlock s = resetTo s.cfg (s.epoch + 1) s.agenda := rfl

/-- The step that takes the reset input off the agenda (R330, log 16). -/
theorem step_of_reset {s : State} {rest : List AgendaItem} (h : s.agenda = .reset :: rest) :
    step s = .next (resetTo s.cfg (s.epoch + 1) rest) := by
  rw [step_eq, h]
  exact congrArg _ (resetBlock_eq_resetTo { s with agenda := rest })

/-- The two ways a state is one reset leaves: it is `State.reset`, or the reset input has led to it. -/
theorem eq_resetTo_of_reset {s : State}
    (h : s = State.reset ∨ ∃ s0 rest, s0.agenda = .reset :: rest ∧ step s0 = .next s) :
    ∃ c n agenda, s = resetTo c n agenda := by
  rcases h with rfl | ⟨s0, rest, hagenda, hstep⟩
  · exact ⟨_, _, _, reset_eq_resetTo⟩
  · rw [step_of_reset hagenda] at hstep
    cases hstep
    exact ⟨_, _, _, rfl⟩

/-! ### The memories -/

/-- A byte of MEM that nothing has written reads as the free value of its epoch (U3, log 7). -/
theorem memByte_of_unwritten {s : State} {a : Nat} (h : Memory.read? s.mem a = none) :
    memByte s a = Config.unwrittenMem s.epoch a := by
  rw [memByte, h]

/-- A byte of RXBUF that nothing has written reads as the free value of its epoch (U3, log 8). -/
theorem rxbufByte_of_unwritten {s : State} {i : Nat} (h : Memory.read? s.rxbuf i = none) :
    rxbufByte s i = Config.unwrittenRxbuf s.epoch i := by
  rw [rxbufByte, h]

section Resetting

variable (c : Config) (n : Nat) (agenda : List AgendaItem)

@[simp] theorem resetTo_mem : (resetTo c n agenda).mem = [] := rfl

@[simp] theorem resetTo_rxbuf : (resetTo c n agenda).rxbuf = [] := rfl

@[simp] theorem resetTo_aq : (resetTo c n agenda).aq = [] := rfl

@[simp] theorem resetTo_cfg : (resetTo c n agenda).cfg = c := rfl

@[simp] theorem resetTo_epoch : (resetTo c n agenda).epoch = n := rfl

@[simp] theorem resetTo_agenda : (resetTo c n agenda).agenda = agenda := rfl

/-! ### The invariants -/

/-- Both memories list nothing. -/
theorem memoryInv_resetTo : MemoryInv (resetTo c n agenda) := by
  refine ⟨?_, ?_, ?_, ?_⟩
  · exact List.Pairwise.nil
  · exact List.Pairwise.nil
  · simp
  · simp

/-- TX is in TX_IDLE, where no attempt runs. -/
theorem txInv_resetTo : TxInv (resetTo c n agenda) := by
  have hidle : (resetTo c n agenda).txState = .idle := rfl
  simp only [TxInv, hidle]

/-- AL waits for the first byte of a header, and neither AL_ERROR nor `al_link_err` stands. -/
theorem alInv_resetTo : AlInv (resetTo c n agenda) := by
  have hhdr : (resetTo c n agenda).alState = .hdr := rfl
  have hcnt : (resetTo c n agenda).alCnt = 0 := rfl
  have herr : (resetTo c n agenda).alLinkErr = false := rfl
  simp [AlInv, hhdr, hcnt, herr]

/-- The queue is empty, which any depth admits. -/
theorem queueInv_resetTo : QueueInv (resetTo c n agenda) := by
  intro d _
  rw [resetTo_aq]
  exact Nat.zero_le d

/-- RX waits for the first byte of a header, and no outcome stands. -/
theorem rxInv_resetTo : RxInv (resetTo c n agenda) := by
  have hhdr : (resetTo c n agenda).rxState = .hdr := rfl
  have hcnt : (resetTo c n agenda).rxCnt = 0 := rfl
  have hout : (resetTo c n agenda).rxOutcome = .none := rfl
  simp [RxInv, hhdr, hcnt, hout]

/-- No outcome of TX stands. -/
theorem txOutcomeInv_resetTo : TxOutcomeInv (resetTo c n agenda) := by
  have hout : (resetTo c n agenda).txOutcome = .none := rfl
  simp [TxOutcomeInv, hout]

end Resetting

/-! ### The statements -/

/-- Settles O50: one lemma for each invariant. -/
theorem invariantsHoldAfterReset : Obligations.InvariantsHoldAfterReset := by
  intro c n
  rw [resetWith_eq_resetTo]
  exact ⟨memoryInv_resetTo c n [], txInv_resetTo c n [], alInv_resetTo c n [], queueInv_resetTo c n [],
    rxInv_resetTo c n [], txOutcomeInv_resetTo c n []⟩

/-- Settles O4: the reset step answers a `resetTo`, and a `resetTo` holds the listed values, unit by unit. -/
theorem resetLeavesTheListedValues : Obligations.ResetLeavesTheListedValues := by
  refine ⟨fun s0 rest hagenda =>
    ⟨_, step_of_reset hagenda, resetTo_cfg .., resetTo_agenda .., resetTo_epoch ..⟩, fun s hs => ?_⟩
  obtain ⟨c, n, agenda, rfl⟩ := eq_resetTo_of_reset hs
  refine ⟨?tx, ?al, ?rx, ?inputsAndChannels, fun a => ?memories⟩
  case tx => simp only [resetTo, State.resetWith, and_self]
  case al => simp only [resetTo, State.resetWith, and_self]
  case rx => simp only [resetTo, State.resetWith, and_self]
  case inputsAndChannels => simp only [resetTo, State.resetWith, and_self]
  case memories =>
    have hmem : Memory.read? (resetTo c n agenda).mem a = none := by rw [resetTo_mem, Memory.read?]
    have hrxbuf : Memory.read? (resetTo c n agenda).rxbuf a = none := by rw [resetTo_rxbuf, Memory.read?]
    exact ⟨memByte_of_unwritten hmem, rxbufByte_of_unwritten hrxbuf⟩

end Sys2Proof.Machine

/-! PROOFS. The memories, the queue and the listener (spec/20_memory.md R51, R54): what an instruction that is no frame
can answer, said once for each unit and once for all other rows, guards and faults included; from it that every step
keeps the invariants of the memories, AL, the queue and the outcomes of TX, and that no step faults. -/

namespace Sys2Proof.Machine

/-! ### When a step is enabled (R99) -/

theorem onTxHsByte_iff (s : State) : onTxHsByte s = true ↔ s.txState = .hsSend ∧ s.errOut = false := by
  simp [onTxHsByte]

theorem onTxChunkByte_iff (s : State) : onTxChunkByte s = true ↔ s.txState = .chunkSend ∧ s.errOut = false := by
  simp [onTxChunkByte]

theorem onAlHdrByte_iff (s : State) :
    onAlHdrByte s = true ↔ s.alState = .hdr ∧ s.alCnt.toNat < 4 ∧ s.ret ≠ [] ∧ s.errRet = false := by
  simp [onAlHdrByte, and_assoc]

theorem alAtFifth_iff (s : State) :
    alAtFifth s = true ↔ s.alState = .hdr ∧ s.alCnt = 4 ∧ s.ret ≠ [] ∧ s.errRet = false := by
  simp [alAtFifth, and_assoc]

theorem onAlDiagByte_iff (s : State) :
    onAlDiagByte s = true ↔ s.alState = .diag ∧ s.ret ≠ [] ∧ s.errRet = false := by
  simp [onAlDiagByte, and_assoc]

theorem onAlLinkErr_iff (s : State) : onAlLinkErr s = true ↔ s.alState ≠ .error ∧ s.errRet = true := by
  simp [onAlLinkErr]

theorem onRxHdrDone_iff (s : State) :
    onRxHdrDone s = true ↔ s.rxState = .hdr ∧ s.rxCnt = 4 ∧ s.inb ≠ [] ∧ s.errInb = false := by
  simp [onRxHdrDone, and_assoc]

theorem onRxPayByte_iff (s : State) :
    onRxPayByte s = true ↔ s.rxState = .payload ∧ s.inb ≠ [] ∧ s.errInb = false := by
  simp [onRxPayByte, and_assoc]

/-! ### What a step of TX can answer -/

/-- All that a step row of TX can answer in `s` (R195 to R209): it waits, takes effect under its guard, or makes one of
the accesses the spec rules out (log 12). -/
inductive TxAnswers (s : State) : StepOutcome → Prop
  | waits : TxAnswers s (.next s)
  | headerByte (b : Byte) (hon : onTxHsByte s = true)
      (hb : headerByte (headerOf s.txTag s.txParams) s.txIdx.toNat = some b) (hidx : s.txIdx ≠ 4) :
      TxAnswers s (.next { s with out := s.out ++ [b], txIdx := s.txIdx + 1 })
  | lastHeaderByte (b : Byte) (hon : onTxHsByte s = true)
      (hb : headerByte (headerOf s.txTag s.txParams) s.txIdx.toNat = some b) (hidx : s.txIdx = 4) :
      TxAnswers s (.next
        { s with
          out := s.out ++ [b], txIdx := s.txIdx + 1, txState := .hsWait
          wd := BitVec.ofNat 32 s.cfg.handshakeTimeoutTicks })
  | emptyTransferDone (hon : onTxHsAck s = true) (hlen : s.totalLen = 0) :
      TxAnswers s (.next (txRaise .success (aqDrop s)))
  | firstChunk (hon : onTxHsAck s = true) (hlen : s.totalLen ≠ 0) : TxAnswers s (.next (txNextChunk (aqDrop s)))
  | handshakeNak (hon : onTxHsNak s = true) : TxAnswers s (.next (txRaise .peerNak (aqDrop s)))
  | handshakeMismatch (v : Entry) (rest : List Entry) (hon : onTxHsMismatch s = true) (haq : s.aq = v :: rest) :
      TxAnswers s (.next (txRaise .protocolMismatch { aqDrop s with txInfo := v }))
  | handshakeTimeout (hon : onTxHsTimeout s = true) : TxAnswers s (.next (txRaise .handshakeTimeout s))
  | chunkByte (hon : onTxChunkByte s = true) (hin : s.txBase.toNat + s.sent.toNat < s.cfg.memBytes)
      (hrem : s.chunkRem ≠ 1) :
      TxAnswers s (.next
        { s with
          out := s.out ++ [memByte s (s.txBase.toNat + s.sent.toNat)], sent := s.sent + 1
          chunkRem := s.chunkRem - 1 })
  | lastChunkByte (hon : onTxChunkByte s = true) (hin : s.txBase.toNat + s.sent.toNat < s.cfg.memBytes)
      (hrem : s.chunkRem = 1) :
      TxAnswers s (.next
        { s with
          out := s.out ++ [memByte s (s.txBase.toNat + s.sent.toNat)], sent := s.sent + 1
          chunkRem := s.chunkRem - 1, txState := .chunkWait
          wd := BitVec.ofNat 32 s.cfg.chunkAckTimeoutTicks })
  | transferDone (hon : onTxChunkAck s = true) (hlen : s.sent = s.totalLen) :
      TxAnswers s (.next (txRaise .success { aqDrop s with expect := s.expect + 1 }))
  | nextChunk (hon : onTxChunkAck s = true) (hlen : s.sent ≠ s.totalLen) :
      TxAnswers s (.next (txNextChunk { aqDrop s with expect := s.expect + 1 }))
  | chunkNak (hon : onTxChunkNak s = true) : TxAnswers s (.next (txRaise .peerNak (aqDrop s)))
  | chunkMismatch (v : Entry) (rest : List Entry) (hon : onTxChunkMismatch s = true) (haq : s.aq = v :: rest) :
      TxAnswers s (.next (txRaise .protocolMismatch { aqDrop s with txInfo := v }))
  | chunkTimeout (hon : onTxChunkTimeout s = true) : TxAnswers s (.next (txRaise .chunkAckTimeout s))
  | linkError (hon : onTxLinkErr s = true) : TxAnswers s (.next (txRaise .linkIoFailure s))
  | noHeaderTag (hon : onTxHsByte s = true) (htag : Tag.ofByte s.txTag = none) :
      TxAnswers s (.fault (.handshakeTag s.txTag))
  | noHeaderByte (hon : onTxHsByte s = true) (hidx : 5 ≤ s.txIdx.toNat) :
      TxAnswers s (.fault (.headerIndex s.txIdx.toNat))
  | pastMem (hon : onTxChunkByte s = true) (hout : s.cfg.memBytes ≤ s.txBase.toNat + s.sent.toNat) :
      TxAnswers s (.fault (.memOutOfRange (s.txBase.toNat + s.sent.toNat)))

/-- FC.ENCODE of a recognised tag is the header (R111). -/
theorem fcEncode_of_tag {tag : Byte} (params : Params) (h : Tag.ofByte tag ≠ none) :
    fcEncode tag params = some (headerOf tag params) := by
  simp [fcEncode, isTag, Option.isSome_iff_ne_none, h]

/-- FC.ENCODE fails for every other byte (R111). -/
theorem fcEncode_of_no_tag {tag : Byte} (params : Params) (h : Tag.ofByte tag = none) : fcEncode tag params = none := by
  simp [fcEncode, isTag, h]

/-- A header has five bytes (R81). -/
theorem headerByte_eq_none_iff (h : Header) (i : Nat) : headerByte h i = none ↔ 5 ≤ i := by
  simp [headerByte, Header.bytes]

theorem txAnswers_execTxHsByte (s : State) : TxAnswers s (execTxHsByte s) := by
  unfold execTxHsByte
  by_cases hon : onTxHsByte s = true
  · rw [if_pos hon]
    by_cases htag : Tag.ofByte s.txTag = none
    · rw [fcEncode_of_no_tag _ htag]
      exact .noHeaderTag hon htag
    · rw [fcEncode_of_tag _ htag]
      dsimp only
      cases hb : headerByte (headerOf s.txTag s.txParams) s.txIdx.toNat with
      | none => exact .noHeaderByte hon ((headerByte_eq_none_iff _ _).mp hb)
      | some b =>
        dsimp only
        split
        next hidx => exact .lastHeaderByte b hon hb hidx
        next hidx => exact .headerByte b hon hb hidx
  · rw [if_neg hon]
    exact .waits

theorem txAnswers_execTxHsAck (s : State) : TxAnswers s (execTxHsAck s) := by
  unfold execTxHsAck
  split
  next hon =>
    split
    next hlen => exact .emptyTransferDone hon hlen
    next hlen => exact .firstChunk hon hlen
  next => exact .waits

theorem txAnswers_execTxHsMismatch (s : State) : TxAnswers s (execTxHsMismatch s) := by
  unfold execTxHsMismatch
  split
  next hon =>
    split
    next v rest haq => exact .handshakeMismatch v rest hon haq
    next => exact .waits
  next => exact .waits

theorem txAnswers_execTxChunkByte (s : State) : TxAnswers s (execTxChunkByte s) := by
  unfold execTxChunkByte
  split
  next hon =>
    dsimp only
    split
    next hout => exact .pastMem hon hout
    next hin =>
      split
      next hrem => exact .lastChunkByte hon (Nat.lt_of_not_le hin) hrem
      next hrem => exact .chunkByte hon (Nat.lt_of_not_le hin) hrem
  next => exact .waits

theorem txAnswers_execTxChunkAck (s : State) : TxAnswers s (execTxChunkAck s) := by
  unfold execTxChunkAck
  split
  next hon =>
    split
    next hlen => exact .transferDone hon hlen
    next hlen => exact .nextChunk hon hlen
  next => exact .waits

theorem txAnswers_execTxChunkMismatch (s : State) : TxAnswers s (execTxChunkMismatch s) := by
  unfold execTxChunkMismatch
  split
  next hon =>
    split
    next v rest haq => exact .chunkMismatch v rest hon haq
    next => exact .waits
  next => exact .waits

/-- A step that takes one effect when it is enabled, and waits otherwise (log 11). -/
theorem answers_of_enabled {Answers : StepOutcome → Prop} {on : Bool} {s t : State} (waits : Answers (.next s))
    (takes : on = true → Answers (.next t)) : Answers (if on then .next t else .next s) := by
  split
  next hon => exact takes hon
  next => exact waits

theorem txAnswers_exec {i : Instr} (hi : unitOf i = some .tx) (s : State) : TxAnswers s (exec i s) := by
  cases i <;> cases hi
  case txHsByte => exact txAnswers_execTxHsByte s
  case txHsAck => exact txAnswers_execTxHsAck s
  case txHsNak => exact answers_of_enabled .waits .handshakeNak
  case txHsMismatch => exact txAnswers_execTxHsMismatch s
  case txHsTimeout => exact answers_of_enabled .waits .handshakeTimeout
  case txChunkByte => exact txAnswers_execTxChunkByte s
  case txChunkAck => exact txAnswers_execTxChunkAck s
  case txChunkNak => exact answers_of_enabled .waits .chunkNak
  case txChunkMismatch => exact txAnswers_execTxChunkMismatch s
  case txChunkTimeout => exact answers_of_enabled .waits .chunkTimeout
  case txLinkErr => exact answers_of_enabled .waits .linkError

/-- A step of TX leaves the registers of AL and RX, the inputs and MEM alone, and only takes from the queue (R306). -/
theorem TxAnswers.frame {s t : State} (h : TxAnswers s (.next t)) :
    AlRegsEq s t ∧ RxRegsEq s t ∧ InputsEq s t ∧ t.mem = s.mem ∧ t.aq <:+ s.aq := by
  cases h <;> simp [AlRegsEq, RxRegsEq, InputsEq, List.tail_suffix]

/-! ### What a step of AL can answer -/

/-- All that a step row of AL can answer in `s` (R170 to R181): it waits, or takes effect under its guard. -/
inductive AlAnswers (s : State) : StepOutcome → Prop
  | waits : AlAnswers s (.next s)
  | headerByte (b : Byte) (rest : List Byte) (hon : onAlHdrByte s = true) (hret : s.ret = b :: rest) :
      AlAnswers s (.next { s with ret := rest, alHdr := setHeaderByte s.alHdr s.alCnt b, alCnt := s.alCnt + 1 })
  | frameAck (hon : onAlFrameAck s = true) :
      AlAnswers s (.next (aqEnq (.val (fcCount (alPopFifth s).alHdr.params)) (alPopFifth s)))
  | frameNak (hon : onAlFrameNak s = true) : AlAnswers s (.next (aqEnq .nak (alPopFifth s)))
  | frameStr (hon : onAlFrameStr s = true) : AlAnswers s (.next { alPopFifth s with alState := .diag })
  | frameDropUnknown (hon : onAlFrameDropUnknown s = true) : AlAnswers s (.next (alLogHeader (alPopFifth s)))
  | frameDropPayloadKind (hon : onAlFrameDropPayloadKind s = true) : AlAnswers s (.next (alLogHeader (alPopFifth s)))
  | diagByte (b : Byte) (rest : List Byte) (hon : onAlDiagByte s = true) (hret : s.ret = b :: rest) :
      AlAnswers s (.next
        { s with
          ret := rest, diag := s.diag ++ [(b, b == s.cfg.diagEol)]
          alState := if b = s.cfg.diagEol then .hdr else s.alState })
  | linkError (hon : onAlLinkErr s = true) :
      AlAnswers s (.next { s with alState := .error, alLinkErr := true, evt := s.evt ++ [.alLinkErr] })

theorem alAnswers_execAlHdrByte (s : State) : AlAnswers s (execAlHdrByte s) := by
  unfold execAlHdrByte
  split
  next hon =>
    split
    next b rest hret => exact .headerByte b rest hon hret
    next => exact .waits
  next => exact .waits

theorem alAnswers_execAlDiagByte (s : State) : AlAnswers s (execAlDiagByte s) := by
  unfold execAlDiagByte
  split
  next hon =>
    split
    next b rest hret => exact .diagByte b rest hon hret
    next => exact .waits
  next => exact .waits

theorem alAnswers_exec {i : Instr} (hi : unitOf i = some .al) (s : State) : AlAnswers s (exec i s) := by
  cases i <;> cases hi
  case alHdrByte => exact alAnswers_execAlHdrByte s
  case alFrameAck => exact answers_of_enabled .waits .frameAck
  case alFrameNak => exact answers_of_enabled .waits .frameNak
  case alFrameStr => exact answers_of_enabled .waits .frameStr
  case alFrameDropUnknown => exact answers_of_enabled .waits .frameDropUnknown
  case alFrameDropPayloadKind => exact answers_of_enabled .waits .frameDropPayloadKind
  case alDiagByte => exact alAnswers_execAlDiagByte s
  case alLinkErr => exact answers_of_enabled .waits .linkError

/-- A step of AL leaves the registers of TX and RX, the inputs and MEM alone (R306). -/
theorem AlAnswers.frame {s t : State} (h : AlAnswers s (.next t)) :
    TxRegsEq s t ∧ RxRegsEq s t ∧ InputsEq s t ∧ t.mem = s.mem := by
  cases h <;> simp [TxRegsEq, RxRegsEq, InputsEq]

/-! ### What a step of RX can answer -/

/-- All that a step row of RX can answer in `s` (R231 to R252): it waits, takes effect under its guard, or makes the
access the spec rules out (log 12). -/
inductive RxAnswers (s : State) : StepOutcome → Prop
  | waits : RxAnswers s (.next s)
  | headerByte (b : Byte) (rest : List Byte) (hon : onRxHdrByte s = true) (hinb : s.inb = b :: rest) :
      RxAnswers s (.next
        (loadRxWd { s with inb := rest, rxHdr := setHeaderByte s.rxHdr s.rxCnt b, rxCnt := s.rxCnt + 1 }))
  | headerDone (b : Byte) (rest : List Byte) (hon : onRxHdrDone s = true) (hinb : s.inb = b :: rest) :
      RxAnswers s (.next (rxDispatch { s with inb := rest, rxHdr := { s.rxHdr with h4 := b }, rxCnt := 0 }))
  | payloadByte (b : Byte) (rest : List Byte) (hon : onRxPayByte s = true) (hinb : s.inb = b :: rest)
      (hin : s.rxGot.toNat < s.cfg.maxPayload) (hlen : s.rxGot + 1 ≠ s.rxLen) :
      RxAnswers s (.next (loadRxWd
        { s with inb := rest, rxbuf := Memory.write s.rxbuf s.rxGot.toNat b, rxGot := s.rxGot + 1 }))
  | lastPayloadByte (b : Byte) (rest : List Byte) (hon : onRxPayByte s = true) (hinb : s.inb = b :: rest)
      (hin : s.rxGot.toNat < s.cfg.maxPayload) (hlen : s.rxGot + 1 = s.rxLen) :
      RxAnswers s (.next
        { deliver { s with inb := rest, rxbuf := Memory.write s.rxbuf s.rxGot.toNat b, rxGot := s.rxGot + 1 } with
          rxState := .hdr })
  | timeout (hon : onRxTimeout s = true) : RxAnswers s (.next (rxRaise .rxTimeout s))
  | linkError (hon : onRxLinkErr s = true) : RxAnswers s (.next (rxRaise .linkIoFailure s))
  | pastRxbuf (hon : onRxPayByte s = true) (hout : s.cfg.maxPayload ≤ s.rxGot.toNat) :
      RxAnswers s (.fault (.rxbufOutOfRange s.rxGot.toNat))

theorem rxAnswers_execRxHdrByte (s : State) : RxAnswers s (execRxHdrByte s) := by
  unfold execRxHdrByte
  split
  next hon =>
    split
    next b rest hinb => exact .headerByte b rest hon hinb
    next => exact .waits
  next => exact .waits

theorem rxAnswers_execRxHdrDone (s : State) : RxAnswers s (execRxHdrDone s) := by
  unfold execRxHdrDone
  split
  next hon =>
    split
    next b rest hinb => exact .headerDone b rest hon hinb
    next => exact .waits
  next => exact .waits

theorem rxAnswers_execRxPayByte (s : State) : RxAnswers s (execRxPayByte s) := by
  unfold execRxPayByte
  split
  next hon =>
    split
    next b rest hinb =>
      split
      next hout => exact .pastRxbuf hon hout
      next hin =>
        dsimp only
        split
        next hlen => exact .lastPayloadByte b rest hon hinb (Nat.lt_of_not_le hin) hlen
        next hlen => exact .payloadByte b rest hon hinb (Nat.lt_of_not_le hin) hlen
    next => exact .waits
  next => exact .waits

theorem rxAnswers_exec {i : Instr} (hi : unitOf i = some .rx) (s : State) : RxAnswers s (exec i s) := by
  cases i <;> cases hi
  case rxHdrByte => exact rxAnswers_execRxHdrByte s
  case rxHdrDone => exact rxAnswers_execRxHdrDone s
  case rxPayByte => exact rxAnswers_execRxPayByte s
  case rxTimeout => exact answers_of_enabled .waits .timeout
  case rxLinkErr => exact answers_of_enabled .waits .linkError

/-- A step of RX leaves the registers of TX and AL, the inputs, MEM and the queue alone (R306). -/
theorem RxAnswers.frame {s t : State} (h : RxAnswers s (.next t)) :
    TxRegsEq s t ∧ AlRegsEq s t ∧ InputsEq s t ∧ t.mem = s.mem ∧ t.aq = s.aq := by
  cases h <;> simp [TxRegsEq, AlRegsEq, InputsEq]

/-! ### What every other row can answer -/

/-- All that a row which is neither a unit's step nor a frame can answer in `s`: the host operations, the functions, the
queue's operations and TICK. None of them faults. -/
inductive OpAnswers (s : State) : StepOutcome → Prop
  | waits : OpAnswers s (.next s)
  | answered (r : Result) : OpAnswers s (.next (setResult r s))
  | wroteMem (a : Nat) (bs : List Byte) (r : Result) (hin : a + bs.length ≤ s.cfg.memBytes) :
      OpAnswers s (.next (setResult r { s with mem := Memory.writeSeq s.mem a bs }))
  | enqueued (v : Entry) : OpAnswers s (.next (setResult .unit (aqEnq v s)))
  | dequeued (v : Entry) (rest : List Entry) (haq : s.aq = v :: rest) :
      OpAnswers s (.next (setResult (.entry v) (aqDrop s)))
  | cleared : OpAnswers s (.next (setResult .unit (aqClear s)))
  | txStarted (tag : Byte) (params : Params) (base : U32) (t : Tag) (hidle : txBusy s = false)
      (htag : payTag tag = some t) (hin : base.toNat + fcPaylen s.cfg.tag2Kind t params ≤ s.cfg.memBytes) :
      OpAnswers s (.next (setResult (.status .accepted)
        { txLoad tag params base (fcPaylen s.cfg.tag2Kind t params) s with txState := .hsSend }))
  | txStartFailed (tag : Byte) (params : Params) (base : U32) (hidle : txBusy s = false) (htag : payTag tag = none) :
      OpAnswers s (.next (setResult (.status .accepted) (txRaise .malformedFrame (txLoad tag params base 0 s))))
  | rxResumed (hstopped : rxStopped s = true) : OpAnswers s (.next (setResult (.status .accepted) (rxResume s)))
  | ticked : OpAnswers s (.next { s with wd := wdTicked s, rxWd := rxWdTicked s })

@[simp] theorem icPack3Seq_length (m : List Byte) : (icPack3Seq m).length = ceilDiv m.length 2 := by
  simp [icPack3Seq]

@[simp] theorem icUnpack3Seq_length (lut : Vector Byte 8) (b : List Byte) (width height : U16) :
    (icUnpack3Seq lut b width height).length = height.toNat * width.toNat := by
  simp [icUnpack3Seq]

theorem opAnswers_execIcPack3 (src : U32) (height width : U16) (dst : U32) (s : State) :
    OpAnswers s (execIcPack3 src height width dst s) := by
  unfold execIcPack3
  dsimp only
  split
  next => exact .answered _
  next hin => exact .wroteMem _ _ _ (by simpa using (not_or.mp hin).2)

theorem opAnswers_execIcUnpack3 (src : U32) (width height : U16) (dst : U32) (s : State) :
    OpAnswers s (execIcUnpack3 src width height dst s) := by
  unfold execIcUnpack3
  dsimp only
  split
  next => exact .answered _
  next hin => exact .wroteMem _ _ _ (by simpa using (not_or.mp hin).2)

theorem opAnswers_execMemWrite (addr : U32) (byte : Byte) (s : State) : OpAnswers s (execMemWrite addr byte s) := by
  unfold execMemWrite
  split
  next => exact .answered _
  next hin => exact .wroteMem addr.toNat [byte] _ (Nat.lt_of_not_le hin)

theorem opAnswers_execMemRead (addr : U32) (s : State) : OpAnswers s (execMemRead addr s) := by
  unfold execMemRead
  split
  next => exact .answered _
  next => exact .answered _

theorem opAnswers_execRegRead (regno : Byte) (s : State) : OpAnswers s (execRegRead regno s) := by
  unfold execRegRead
  cases registerValue s regno.toNat with
  | none => exact .answered _
  | some v => exact .answered _

theorem opAnswers_execFcEncode (tag : Byte) (params : Params) (s : State) :
    OpAnswers s (execFcEncode tag params s) := by
  unfold execFcEncode
  cases fcEncode tag params with
  | none => exact .answered _
  | some h => exact .answered _

theorem opAnswers_execFcDecode (h : Header) (s : State) : OpAnswers s (execFcDecode h s) := by
  unfold execFcDecode
  cases fcDecode h with
  | none => exact .answered _
  | some tp => exact .answered _

theorem opAnswers_execAqDeq (s : State) : OpAnswers s (execAqDeq s) := by
  unfold execAqDeq
  split
  next v rest haq => exact .dequeued v rest haq
  next => exact .waits

theorem opAnswers_execTxStart (tag : Byte) (params : Params) (base : U32) (s : State) :
    OpAnswers s (execTxStart tag params base s) := by
  unfold execTxStart
  split
  next => exact .answered _
  next hidle =>
    have hidle : txBusy s = false := Bool.eq_false_iff.mpr hidle
    split
    next t htag =>
      split
      next => exact .answered _
      next hin => exact .txStarted tag params base t hidle htag (Nat.le_of_not_lt hin)
    next htag => exact .txStartFailed tag params base hidle htag

theorem opAnswers_execRxRestart (s : State) : OpAnswers s (execRxRestart s) := by
  unfold execRxRestart
  split
  next hstopped => exact .rxResumed hstopped
  next => exact .answered _

theorem opAnswers_exec {i : Instr} (hframe : i.header = none) (hi : unitOf i = none) (s : State) :
    OpAnswers s (exec i s) := by
  cases i <;> cases hframe <;> cases hi
  case fcEncode tag params => exact opAnswers_execFcEncode tag params s
  case fcDecode h => exact opAnswers_execFcDecode h s
  case icPack3 src height width dst => exact opAnswers_execIcPack3 src height width dst s
  case icUnpack3 src width height dst => exact opAnswers_execIcUnpack3 src width height dst s
  case txStart tag params base => exact opAnswers_execTxStart tag params base s
  case rxRestart => exact opAnswers_execRxRestart s
  case regRead regno => exact opAnswers_execRegRead regno s
  case memWrite addr byte => exact opAnswers_execMemWrite addr byte s
  case memRead addr => exact opAnswers_execMemRead addr s
  case aqEnq v => exact .enqueued v
  case aqDeq => exact opAnswers_execAqDeq s
  case aqClear => exact .cleared
  case tick => exact .ticked
  all_goals exact .answered _

/-- What each row that is no frame can answer: its unit's steps, or an operation of no unit. -/
theorem exec_cases {i : Instr} (hframe : i.header = none) (s : State) :
    TxAnswers s (exec i s) ∨ AlAnswers s (exec i s) ∨ RxAnswers s (exec i s) ∨ OpAnswers s (exec i s) := by
  cases hi : unitOf i with
  | none => exact .inr (.inr (.inr (opAnswers_exec hframe hi s)))
  | some u =>
    cases u with
    | tx => exact .inl (txAnswers_exec hi s)
    | al => exact .inr (.inl (alAnswers_exec hi s))
    | rx => exact .inr (.inr (.inl (rxAnswers_exec hi s)))

/-! ### The memories (R51) -/

theorem MemoryInv.congr {s t : State} (hs : MemoryInv s) (hmem : t.mem = s.mem) (hrxbuf : t.rxbuf = s.rxbuf)
    (hcfg : t.cfg = s.cfg) : MemoryInv t := by
  rw [MemoryInv, hmem, hrxbuf, hcfg]
  exact hs

/-- A sequence written inside MEM. -/
theorem MemoryInv.writeSeq_mem {s : State} (hs : MemoryInv s) {a : Nat} {bs : List Byte}
    (hin : a + bs.length ≤ s.cfg.memBytes) : MemoryInv { s with mem := Memory.writeSeq s.mem a bs } := by
  obtain ⟨hmem, hrxbuf, hmemIn, hrxbufIn⟩ := hs
  refine ⟨Memory.wf_writeSeq _ _ _ hmem, hrxbuf, fun c hc => ?_, hrxbufIn⟩
  rcases Memory.mem_writeSeq _ _ _ _ hc with ⟨-, hlt⟩ | hc
  · exact Nat.lt_of_lt_of_le hlt hin
  · exact hmemIn c hc

/-- One byte written inside RXBUF. -/
theorem MemoryInv.write_rxbuf {s : State} (hs : MemoryInv s) {i : Nat} (b : Byte) (hin : i < s.cfg.maxPayload) :
    MemoryInv { s with rxbuf := Memory.write s.rxbuf i b } := by
  obtain ⟨hmem, hrxbuf, hmemIn, hrxbufIn⟩ := hs
  refine ⟨hmem, Memory.wf_write _ _ _ hrxbuf, hmemIn, fun c hc => ?_⟩
  rcases Memory.mem_write _ _ _ _ hc with rfl | hc
  · exact hin
  · exact hrxbufIn c hc

/-- RX writes RXBUF with a payload byte only, below MAX_PAYLOAD (R240). -/
theorem RxAnswers.keeps_memoryInv {s t : State} (h : RxAnswers s (.next t)) (hs : MemoryInv s) : MemoryInv t := by
  cases h with
  | payloadByte b rest _ _ hin _ => exact (hs.write_rxbuf b hin).congr (by simp) (by simp) (by simp)
  | lastPayloadByte b rest _ _ hin _ => exact (hs.write_rxbuf b hin).congr (by simp) (by simp) (by simp)
  | _ => exact hs.congr (by simp) (by simp) (by simp)

/-- HOST writes MEM inside its bounds (R262, R263, R266). -/
theorem OpAnswers.keeps_memoryInv {s t : State} (h : OpAnswers s (.next t)) (hs : MemoryInv s) : MemoryInv t := by
  cases h with
  | wroteMem a bs r hin => exact (hs.writeSeq_mem hin).congr (by simp) (by simp) (by simp)
  | _ => exact hs.congr (by simp) (by simp) (by simp)

theorem exec_keeps_memoryInv {i : Instr} {s t : State} (hframe : i.header = none) (hs : MemoryInv s)
    (ht : exec i s = .next t) : MemoryInv t := by
  rcases ht ▸ exec_cases hframe s with h | h | h | h
  · obtain ⟨-, hrx, hinputs, hmem, -⟩ := h.frame
    obtain ⟨-, -, -, -, -, -, -, -, -, hrxbuf⟩ := hrx
    obtain ⟨-, -, -, hcfg, -⟩ := hinputs
    exact hs.congr hmem hrxbuf hcfg
  · obtain ⟨-, hrx, hinputs, hmem⟩ := h.frame
    obtain ⟨-, -, -, -, -, -, -, -, -, hrxbuf⟩ := hrx
    obtain ⟨-, -, -, hcfg, -⟩ := hinputs
    exact hs.congr hmem hrxbuf hcfg
  · exact h.keeps_memoryInv hs
  · exact h.keeps_memoryInv hs

theorem step_keeps_memoryInv {s t : State} (hs : MemoryInv s) (ht : step s = .next t) : MemoryInv t :=
  step_induct MemoryInv
    (exec_keeps := fun _ _ _ => exec_keeps_memoryInv)
    (agenda_keeps := fun _ _ h => h)
    (ret_keeps := fun _ _ h => h)
    (inb_keeps := fun _ _ h => h)
    (out_keeps := fun _ h => h)
    (pop_keeps := fun _ c h => by cases c <;> exact h)
    (error_keeps := fun _ l h => by cases l <;> exact h)
    (reset_keeps := fun s _ => memoryInv_resetTo s.cfg (s.epoch + 1) s.agenda)
    hs ht

/-! ### The listener (R25, R178, R181) -/

theorem AlInv.congr {s t : State} (hs : AlInv s) (hstate : t.alState = s.alState) (hcnt : t.alCnt = s.alCnt)
    (hflag : t.alLinkErr = s.alLinkErr) (herr : t.errRet = s.errRet) : AlInv t := by
  rw [AlInv, hstate, hcnt, hflag, herr]
  exact hs

/-- Outside AL_ERROR the invariant is the bound of `al_cnt`, and that `al_link_err` is clear. -/
theorem alInv_of_running {s : State} (hstate : s.alState ≠ .error) (hflag : s.alLinkErr = false)
    (hcnt : s.alCnt.toNat ≤ 4) (hdiag : s.alState = .diag → s.alCnt = 0) : AlInv s :=
  ⟨hcnt, hdiag, by simp [hstate, hflag], fun h => absurd h hstate⟩

theorem AlInv.linkErr_clear {s : State} (hs : AlInv s) (hstate : s.alState ≠ .error) : s.alLinkErr = false := by
  obtain ⟨-, -, hiff, -⟩ := hs
  exact Bool.eq_false_iff.mpr fun h => hstate (hiff.mpr h)

/-- At the fifth byte there is a byte to take, and taking it sets `al_cnt` to 0 (R171). -/
theorem alPopFifth_alCnt_at_fifth {s : State} (h : alAtFifth s = true) : (alPopFifth s).alCnt = 0 := by
  obtain ⟨-, -, hret, -⟩ := (alAtFifth_iff s).mp h
  obtain ⟨b, rest, hret⟩ := List.exists_cons_of_ne_nil hret
  rw [alPopFifth_of_cons s b rest hret]

theorem AlInv.alPopFifth {s : State} (hs : AlInv s) (h : alAtFifth s = true) : AlInv (alPopFifth s) := by
  obtain ⟨hstate, -⟩ := (alAtFifth_iff s).mp h
  have hcnt := alPopFifth_alCnt_at_fifth h
  have hclear := hs.linkErr_clear (by simp [hstate])
  exact alInv_of_running (by simp [hstate]) (by simp [hclear]) (by simp [hcnt]) fun _ => hcnt

/-- Each of the five steps that act on a completed header asks first whether AL is at the fifth byte (R171). -/
theorem alAtFifth_of_guard {s : State} {guard : Bool} (h : (alAtFifth s && guard) = true) : alAtFifth s = true :=
  (Bool.and_eq_true_iff.mp h).1

theorem AlAnswers.keeps_alInv {s t : State} (h : AlAnswers s (.next t)) (hs : AlInv s) : AlInv t := by
  cases h with
  | waits => exact hs
  | headerByte b rest hon hret =>
    obtain ⟨hstate, hcnt, -⟩ := (onAlHdrByte_iff s).mp hon
    refine alInv_of_running (by simp [hstate]) (hs.linkErr_clear (by simp [hstate])) ?_ (by simp [hstate])
    show (s.alCnt + 1).toNat ≤ 4
    bv_omega
  | frameAck hon =>
    exact (hs.alPopFifth (alAtFifth_of_guard hon)).congr (by simp) (by simp) (by simp) (by simp)
  | frameNak hon =>
    exact (hs.alPopFifth (alAtFifth_of_guard hon)).congr (by simp) (by simp) (by simp) (by simp)
  | frameStr hon =>
    obtain ⟨hstate, -⟩ := (alAtFifth_iff s).mp (alAtFifth_of_guard hon)
    have hcnt := alPopFifth_alCnt_at_fifth (alAtFifth_of_guard hon)
    have hclear := hs.linkErr_clear (by simp [hstate])
    exact alInv_of_running (by simp) (by simp [hclear]) (by simp [hcnt]) fun _ => hcnt
  | frameDropUnknown hon =>
    exact (hs.alPopFifth (alAtFifth_of_guard hon)).congr (by simp) (by simp) (by simp) (by simp)
  | frameDropPayloadKind hon =>
    exact (hs.alPopFifth (alAtFifth_of_guard hon)).congr (by simp) (by simp) (by simp) (by simp)
  | diagByte b rest hon hret =>
    obtain ⟨hstate, -⟩ := (onAlDiagByte_iff s).mp hon
    have hclear := hs.linkErr_clear (by simp [hstate])
    obtain ⟨hcnt, hdiag, -⟩ := hs
    refine alInv_of_running ?_ hclear hcnt fun _ => hdiag hstate
    show (if b = s.cfg.diagEol then AlState.hdr else s.alState) ≠ .error
    split <;> simp [hstate]
  | linkError hon =>
    obtain ⟨-, herr⟩ := (onAlLinkErr_iff s).mp hon
    obtain ⟨hcnt, -⟩ := hs
    exact ⟨hcnt, by simp, by simp, fun _ => herr⟩

theorem OpAnswers.keeps_alInv {s t : State} (h : OpAnswers s (.next t)) (hs : AlInv s) : AlInv t := by
  cases h <;> exact hs.congr (by simp) (by simp) (by simp) (by simp)

theorem exec_keeps_alInv {i : Instr} {s t : State} (hframe : i.header = none) (hs : AlInv s)
    (ht : exec i s = .next t) : AlInv t := by
  rcases ht ▸ exec_cases hframe s with h | h | h | h
  · obtain ⟨⟨hstate, hcnt, -, -, hflag⟩, -, ⟨-, herr, -⟩, -⟩ := h.frame
    exact hs.congr hstate hcnt hflag herr
  · exact h.keeps_alInv hs
  · obtain ⟨-, ⟨hstate, hcnt, -, -, hflag⟩, ⟨-, herr, -⟩, -⟩ := h.frame
    exact hs.congr hstate hcnt hflag herr
  · exact h.keeps_alInv hs

/-- LINKERR can only set `err_RET` (R38). -/
theorem AlInv.linkError {s : State} (hs : AlInv s) (l : LinkName) : AlInv (linkError l s) := by
  cases l with
  | ret =>
    obtain ⟨hcnt, hdiag, hiff, -⟩ := hs
    exact ⟨hcnt, hdiag, hiff, fun _ => rfl⟩
  | out => exact hs
  | inb => exact hs

theorem step_keeps_alInv {s t : State} (hs : AlInv s) (ht : step s = .next t) : AlInv t :=
  step_induct AlInv
    (exec_keeps := fun _ _ _ => exec_keeps_alInv)
    (agenda_keeps := fun _ _ h => h)
    (ret_keeps := fun _ _ h => h)
    (inb_keeps := fun _ _ h => h)
    (out_keeps := fun _ h => h)
    (pop_keeps := fun _ c h => by cases c <;> exact h)
    (error_keeps := fun _ l h => h.linkError l)
    (reset_keeps := fun s _ => alInv_resetTo s.cfg (s.epoch + 1) s.agenda)
    hs ht

/-! ### The queue (R32) -/

theorem QueueInv.of_length_le {s t : State} (hs : QueueInv s) (hcfg : t.cfg = s.cfg)
    (hlen : t.aq.length ≤ s.aq.length) : QueueInv t := fun d hd =>
  Nat.le_trans hlen (hs d (hcfg ▸ hd))

/-- AQ.ENQ appends only where there is room (R162). -/
theorem QueueInv.aqEnq {s : State} (hs : QueueInv s) (v : Entry) : QueueInv (aqEnq v s) := by
  rcases aqEnq_cases v s with ⟨hroom, h⟩ | ⟨-, h⟩ <;> rw [h]
  · intro d hd
    have hlt : s.aq.length < d := (aqHasRoom_iff s).mp hroom d hd
    simpa using hlt
  · exact hs

theorem AlAnswers.keeps_queueInv {s t : State} (h : AlAnswers s (.next t)) (hs : QueueInv s) : QueueInv t := by
  have hpop : QueueInv (alPopFifth s) := hs.of_length_le (by simp) (by simp)
  cases h with
  | frameAck _ => exact hpop.aqEnq _
  | frameNak _ => exact hpop.aqEnq _
  | _ => exact hs.of_length_le (by simp) (by simp)

theorem OpAnswers.keeps_queueInv {s t : State} (h : OpAnswers s (.next t)) (hs : QueueInv s) : QueueInv t := by
  cases h with
  | enqueued v => exact hs.aqEnq v
  | _ => exact hs.of_length_le (by simp) (by simp)

theorem exec_keeps_queueInv {i : Instr} {s t : State} (hframe : i.header = none) (hs : QueueInv s)
    (ht : exec i s = .next t) : QueueInv t := by
  rcases ht ▸ exec_cases hframe s with h | h | h | h
  · obtain ⟨-, -, ⟨-, -, -, hcfg, -⟩, -, haq⟩ := h.frame
    exact hs.of_length_le hcfg haq.length_le
  · exact h.keeps_queueInv hs
  · obtain ⟨-, -, ⟨-, -, -, hcfg, -⟩, -, haq⟩ := h.frame
    exact hs.of_length_le hcfg (by rw [haq])
  · exact h.keeps_queueInv hs

theorem step_keeps_queueInv {s t : State} (hs : QueueInv s) (ht : step s = .next t) : QueueInv t :=
  step_induct QueueInv
    (exec_keeps := fun _ _ _ => exec_keeps_queueInv)
    (agenda_keeps := fun _ _ h => h)
    (ret_keeps := fun _ _ h => h)
    (inb_keeps := fun _ _ h => h)
    (out_keeps := fun _ h => h)
    (pop_keeps := fun _ c h => by cases c <;> exact h)
    (error_keeps := fun _ l h => by cases l <;> exact h)
    (reset_keeps := fun s _ => queueInv_resetTo s.cfg (s.epoch + 1) s.agenda)
    hs ht

/-! ### The outcomes of TX (R291) -/

theorem TxOutcomeInv.congr {s t : State} (hs : TxOutcomeInv s) (h : t.txOutcome = s.txOutcome) : TxOutcomeInv t := by
  rw [TxOutcomeInv, h]
  exact hs

theorem txOutcomeInv_of_eq {s : State} {x : OutcomeCode} (h : s.txOutcome = x)
    (hx : x ≠ .rxTimeout ∧ x ≠ .cmdRejected) : TxOutcomeInv s := by
  rw [TxOutcomeInv, h]
  exact hx

/-- TX raises outcomes of its own only (R291). -/
theorem TxAnswers.keeps_txOutcomeInv {s t : State} (h : TxAnswers s (.next t)) (hs : TxOutcomeInv s) :
    TxOutcomeInv t := by
  cases h with
  | waits | headerByte | lastHeaderByte | firstChunk | chunkByte | lastChunkByte | nextChunk => exact hs.congr (by simp)
  | _ => exact txOutcomeInv_of_eq (txRaise_txOutcome _ _) (by simp)

/-- TX.START clears the outcome, or ends the attempt at once with MalformedFrame (R191, R193). -/
theorem OpAnswers.keeps_txOutcomeInv {s t : State} (h : OpAnswers s (.next t)) (hs : TxOutcomeInv s) :
    TxOutcomeInv t := by
  cases h with
  | txStarted | txStartFailed => exact txOutcomeInv_of_eq rfl (by simp)
  | _ => exact hs.congr (by simp)

theorem exec_keeps_txOutcomeInv {i : Instr} {s t : State} (hframe : i.header = none) (hs : TxOutcomeInv s)
    (ht : exec i s = .next t) : TxOutcomeInv t := by
  rcases ht ▸ exec_cases hframe s with h | h | h | h
  · exact h.keeps_txOutcomeInv hs
  · obtain ⟨⟨-, -, -, -, -, -, -, -, -, -, houtcome, -⟩, -⟩ := h.frame
    exact hs.congr houtcome
  · obtain ⟨⟨-, -, -, -, -, -, -, -, -, -, houtcome, -⟩, -⟩ := h.frame
    exact hs.congr houtcome
  · exact h.keeps_txOutcomeInv hs

theorem step_keeps_txOutcomeInv {s t : State} (hs : TxOutcomeInv s) (ht : step s = .next t) : TxOutcomeInv t :=
  step_induct TxOutcomeInv
    (exec_keeps := fun _ _ _ => exec_keeps_txOutcomeInv)
    (agenda_keeps := fun _ _ h => h)
    (ret_keeps := fun _ _ h => h)
    (inb_keeps := fun _ _ h => h)
    (out_keeps := fun _ h => h)
    (pop_keeps := fun _ c h => by cases c <;> exact h)
    (error_keeps := fun _ l h => by cases l <;> exact h)
    (reset_keeps := fun s _ => txOutcomeInv_resetTo s.cfg (s.epoch + 1) s.agenda)
    hs ht

/-! ### No step faults (R51, R195) -/

/-- What RX needs of its invariant so that no byte goes past RXBUF (R240). -/
def RxBounds (s : State) : Prop :=
  s.rxState = .payload → s.rxGot.toNat < s.rxLen.toNat ∧ s.rxLen.toNat ≤ s.cfg.maxPayload

theorem RxInv.bounds {s : State} (hs : RxInv s) : RxBounds s := by
  intro hstate
  simp only [RxInv, hstate] at hs
  obtain ⟨-, -, hgot, hlen, -⟩ := hs
  exact ⟨hgot, hlen⟩

/-- A header whose payload RX goes on to pull announces at least one byte, and no more than RXBUF holds (R232, R239). -/
theorem rxBounds_rxDispatch (s : State) (hstate : s.rxState ≠ .payload) : RxBounds (rxDispatch s) := by
  rcases rxDispatch_cases s with ⟨-, h⟩ | ⟨t, len, -, hlen, ⟨-, h⟩ | ⟨-, -, h⟩ | ⟨hmax, hpos, h⟩⟩ <;> rw [h]
  · exact fun hp => nomatch hp
  · exact fun hp => nomatch hp
  · exact fun hp => absurd hp hstate
  · intro _
    have hlt : len < 2 ^ 32 := hlen ▸ fcPaylen_lt _ _ _
    simp only [loadRxWd_rxGot, loadRxWd_rxLen, loadRxWd_cfg, BitVec.toNat_ofNat, Nat.mod_eq_of_lt hlt]
    exact ⟨hpos, hmax⟩

theorem RxAnswers.keeps_rxBounds {s t : State} (h : RxAnswers s (.next t)) (hs : RxBounds s) : RxBounds t := by
  cases h with
  | waits => exact hs
  | headerByte b rest hon hinb => simpa [RxBounds] using hs
  | headerDone b rest hon hinb =>
    refine rxBounds_rxDispatch _ ?_
    obtain ⟨hstate, -⟩ := (onRxHdrDone_iff s).mp hon
    simp [hstate]
  | payloadByte b rest hon hinb hin hlen =>
    obtain ⟨hgot, hmax⟩ := hs ((onRxPayByte_iff s).mp hon).1
    intro _
    simp only [loadRxWd_rxGot, loadRxWd_rxLen, loadRxWd_cfg]
    refine ⟨?_, hmax⟩
    bv_omega
  | lastPayloadByte | timeout | linkError => exact fun hp => nomatch hp

/-- Where its bounds hold, RX makes no access past RXBUF (R240). -/
theorem RxAnswers.ne_fault {s : State} {o : StepOutcome} (h : RxAnswers s o) (hs : RxBounds s) (f : Fault) :
    o ≠ .fault f := by
  rintro rfl
  cases h with
  | pastRxbuf hon hout =>
    obtain ⟨hgot, hmax⟩ := hs ((onRxPayByte_iff s).mp hon).1
    omega

/-- A byte of the current chunk lies in MEM: the chunk ends inside the payload, the payload inside MEM (R192, R212). -/
theorem TxInv.next_byte_in_mem {s : State} (hs : TxInv s) (hstate : s.txState = .chunkSend) :
    s.txBase.toNat + s.sent.toNat < s.cfg.memBytes := by
  simp only [TxInv, hstate] at hs
  obtain ⟨⟨-, hmem, -⟩, hrem, -, hend, -⟩ := hs
  have hle : chunkEnd s ≤ s.totalLen.toNat := Nat.min_le_right _ _
  omega

/-- In TX_HS_SEND there is a header to encode and a byte of it to send (R195). -/
theorem TxInv.header_to_send {s : State} (hs : TxInv s) (hstate : s.txState = .hsSend) :
    Tag.ofByte s.txTag ≠ none ∧ s.txIdx.toNat < 5 := by
  simp only [TxInv, hstate] at hs
  obtain ⟨⟨⟨t, htag, -⟩, -⟩, -, -, hidx⟩ := hs
  obtain ⟨htag, -⟩ := (payTag_eq_some_iff s.txTag t).mp htag
  exact ⟨by simp [htag], hidx⟩

theorem TxAnswers.ne_fault {s : State} {o : StepOutcome} (h : TxAnswers s o) (hs : TxInv s) (f : Fault) :
    o ≠ .fault f := by
  rintro rfl
  cases h with
  | noHeaderTag hon htag =>
    obtain ⟨hstate, -⟩ := (onTxHsByte_iff s).mp hon
    exact (hs.header_to_send hstate).1 htag
  | noHeaderByte hon hidx =>
    obtain ⟨hstate, -⟩ := (onTxHsByte_iff s).mp hon
    have := (hs.header_to_send hstate).2
    omega
  | pastMem hon hout =>
    obtain ⟨hstate, -⟩ := (onTxChunkByte_iff s).mp hon
    have := hs.next_byte_in_mem hstate
    omega

theorem AlAnswers.ne_fault {s : State} {o : StepOutcome} (h : AlAnswers s o) (f : Fault) : o ≠ .fault f := by
  cases h <;> exact nofun

theorem OpAnswers.ne_fault {s : State} {o : StepOutcome} (h : OpAnswers s o) (f : Fault) : o ≠ .fault f := by
  cases h <;> exact nofun

/-- Turns of a unit do not fault where no turn faults and every turn keeps what that needs. -/
theorem turns_ne_fault {turn : State → StepOutcome} (P : State → Prop)
    (turn_keeps : ∀ s t, P s → turn s = .next t → P t) (turn_safe : ∀ s f, P s → turn s ≠ .fault f) :
    ∀ n s f, P s → turns n turn s ≠ .fault f
  | 0, _, _, _ => nofun
  | n + 1, s, f, hs => by
    intro h
    rcases andThen_eq_fault h with h | ⟨u, hu, h⟩
    · exact turn_safe s f hs h
    · exact turns_ne_fault P turn_keeps turn_safe n u f (turn_keeps s u hs hu) h

theorem alAnswers_alTurn (s : State) : AlAnswers s (alTurn s) := by
  rw [alTurn_eq]
  cases hi : select .al s with
  | none => exact .waits
  | some i => exact alAnswers_exec (select_enabled hi).1 s

theorem rxAnswers_rxTurn (s : State) : RxAnswers s (rxTurn s) := by
  rw [rxTurn_eq]
  cases hi : select .rx s with
  | none => exact .waits
  | some i => exact rxAnswers_exec (select_enabled hi).1 s

/-- A whole frame on either link is taken in without a fault. -/
theorem receiveFrame_ne_fault (l : InLink) (h : Header) {s : State} (hs : RxBounds s) (f : Fault) :
    receiveFrame l h s ≠ .fault f := by
  cases l with
  | ret =>
    exact turns_ne_fault (fun _ => True) (fun _ _ _ _ => trivial) (fun s f _ => (alAnswers_alTurn s).ne_fault f) 5 _ f
      trivial
  | inb =>
    refine turns_ne_fault RxBounds (fun s t hs ht => ?_) (fun s f hs => (rxAnswers_rxTurn s).ne_fault hs f) 5 _ f hs
    exact (ht ▸ rxAnswers_rxTurn s).keeps_rxBounds hs

theorem exec_ne_fault (i : Instr) {s : State} (htx : TxInv s) (hrx : RxInv s) (f : Fault) : exec i s ≠ .fault f := by
  cases hi : i.header with
  | none =>
    rcases exec_cases hi s with h | h | h | h
    · exact h.ne_fault htx f
    · exact h.ne_fault f
    · exact h.ne_fault hrx.bounds f
    · exact h.ne_fault f
  | some lh =>
    rw [exec_of_header hi]
    exact receiveFrame_ne_fault _ _ hrx.bounds f

theorem eq_of_fetchTurn {o : Option Instr} {s s' : State} {i : Instr} (h : fetchTurn o s = .instr i s') : s' = s := by
  cases o <;> cases h
  rfl

theorem eq_of_fetchBytes {p : Port} {bs : List Byte} {s s' : State} {i : Instr}
    (h : fetchBytes p bs s = .instr i s') : s' = s := by
  unfold fetchBytes at h
  split at h <;> cases h
  rfl

theorem eq_of_fetchItem {item : AgendaItem} {s s' : State} {i : Instr} (h : fetchItem item s = .instr i s') :
    s' = s := by
  cases item with
  | command bs => exact eq_of_fetchBytes h
  | frame l hdr => exact eq_of_fetchBytes (p := .link l) (bs := hdr.bytes) h
  | turn u => exact eq_of_fetchTurn h
  | tick =>
    cases h
    rfl
  | peerByte | linkOut | hostPop | linkErr | reset => cases h

/-- An instruction is run in the state it was found in, but for the choice taken off the agenda. -/
theorem eq_of_fetch {s s' : State} {i : Instr} (h : fetch s = .instr i s') :
    ∃ agenda, s' = { s with agenda := agenda } := by
  unfold fetch at h
  split at h
  next item rest _ => exact ⟨rest, eq_of_fetchItem h⟩
  next => exact ⟨s.agenda, eq_of_fetchTurn h⟩

/-- A step faults only where the instruction it runs does. -/
theorem exec_of_step_eq_fault {s : State} {f : Fault} (h : step s = .fault f) :
    ∃ i agenda, exec i { s with agenda := agenda } = .fault f := by
  unfold step at h
  split at h
  next i s' hfetch =>
    obtain ⟨agenda, rfl⟩ := eq_of_fetch hfetch
    exact ⟨i, agenda, h⟩
  next => cases h
  next => cases h

/-! ### The environment's own steps (R54, R38) -/

section EnvironmentSteps

variable {s : State} {rest : List AgendaItem}

theorem step_of_peerByte {l : InLink} {b : Byte} (h : s.agenda = .peerByte l b :: rest) :
    step s = .next (peerByte l b { s with agenda := rest }) := by
  rw [step_eq, h]

theorem step_of_linkOut (h : s.agenda = .linkOut :: rest) : step s = .next (linkOut { s with agenda := rest }) := by
  rw [step_eq, h]

theorem step_of_hostPop {c : HostChannel} (h : s.agenda = .hostPop c :: rest) :
    step s = .next (hostPop c { s with agenda := rest }) := by
  rw [step_eq, h]

theorem step_of_linkErr {l : LinkName} (h : s.agenda = .linkErr l :: rest) :
    step s = .next (linkError l { s with agenda := rest }) := by
  rw [step_eq, h]

end EnvironmentSteps

/-! ### The statements -/

/-- Settles O49: each invariant by its own induction over what a step can do. -/
theorem memoryQueueAndListenerInvariantsAreKept : Obligations.MemoryQueueAndListenerInvariantsAreKept :=
  ⟨fun _ _ => step_keeps_memoryInv, fun _ _ => step_keeps_alInv, fun _ _ => step_keeps_queueInv,
    fun _ _ => step_keeps_txOutcomeInv⟩

/-- Settles O51: the step's instruction runs in a state with the same invariants, where it does not fault. -/
theorem noStepFaults : Obligations.NoStepFaults := by
  intro s f htx hrx h
  obtain ⟨i, agenda, h⟩ := exec_of_step_eq_fault h
  exact exec_ne_fault i (s := { s with agenda := agenda }) htx hrx f h

/-- Settles O3: one lemma for each kind of step the environment takes. -/
theorem environmentStepsTouchOnlyTheirChannel : Obligations.EnvironmentStepsTouchOnlyTheirChannel := fun _ _ =>
  ⟨fun _ => step_of_peerByte, fun _ => step_of_peerByte, step_of_linkOut, step_of_hostPop, step_of_hostPop,
    step_of_hostPop, step_of_hostPop, step_of_linkErr, step_of_linkErr, step_of_linkErr⟩

/-- Settles O52: under its guard each step meets the access it cannot make. -/
theorem impossibleAccessesStop : Obligations.ImpossibleAccessesStop := by
  refine ⟨?handshakeTag, ?headerIndex, ?memOutOfRange, ?rxbufOutOfRange⟩
  case handshakeTag =>
    intro s hstate herr htag
    simp [exec, execTxHsByte, (onTxHsByte_iff s).mpr ⟨hstate, herr⟩, fcEncode_of_no_tag _ htag]
  case headerIndex =>
    intro s hstate herr htag hidx
    simp [exec, execTxHsByte, (onTxHsByte_iff s).mpr ⟨hstate, herr⟩, fcEncode_of_tag _ htag,
      (headerByte_eq_none_iff _ _).mpr hidx]
  case memOutOfRange =>
    intro s hstate herr hout
    simp [exec, execTxChunkByte, (onTxChunkByte_iff s).mpr ⟨hstate, herr⟩, hout]
  case rxbufOutOfRange =>
    intro s hstate herr hinb hout
    obtain ⟨b, rest, hcons⟩ := List.exists_cons_of_ne_nil hinb
    simp [exec, execRxPayByte, (onRxPayByte_iff s).mpr ⟨hstate, hinb, herr⟩, hcons, hout]

end Sys2Proof.Machine

/-! PROOFS. The encodings (spec/30_encoding.md R80 to R97): assembling operands and taking them apart are inverse; from
it that the decoder inverts the encoder on frames and on commands, and the encoder the decoder on every header and on
every listed command. -/

namespace Sys2Proof

/-! ### Operands (R12, R83) -/

section Operands

variable (a b c d : Byte)

@[simp] theorem be16_high : (be16 a b).extractLsb' 8 8 = a := BitVec.extractLsb'_append_eq_left

@[simp] theorem be16_low : (be16 a b).extractLsb' 0 8 = b := BitVec.extractLsb'_append_eq_right

@[simp] theorem be32_byte3 : (be32 a b c d).extractLsb' 24 8 = a :=
  (BitVec.extractLsb'_append_eq_of_le (by decide)).trans
    ((BitVec.extractLsb'_append_eq_of_le (by decide)).trans BitVec.extractLsb'_append_eq_left)

@[simp] theorem be32_byte2 : (be32 a b c d).extractLsb' 16 8 = b :=
  (BitVec.extractLsb'_append_eq_of_le (by decide)).trans
    ((BitVec.extractLsb'_append_eq_of_le (by decide)).trans BitVec.extractLsb'_append_eq_right)

@[simp] theorem be32_byte1 : (be32 a b c d).extractLsb' 8 8 = c :=
  (BitVec.extractLsb'_append_eq_of_le (by decide)).trans BitVec.extractLsb'_append_eq_right

@[simp] theorem be32_byte0 : (be32 a b c d).extractLsb' 0 8 = d := BitVec.extractLsb'_append_eq_right

/-- Taking an assembled operand apart gives its bytes (R12). -/
@[simp] theorem bytesBe16_be16 : bytesBe16 (be16 a b) = [a, b] := by simp [bytesBe16]

@[simp] theorem bytesBe32_be32 : bytesBe32 (be32 a b c d) = [a, b, c, d] := by simp [bytesBe32]

end Operands

/-- Assembling the bytes of a number gives the number (R12). -/
@[simp] theorem be16_of_bytes (v : U16) : be16 (v.extractLsb' 8 8) (v.extractLsb' 0 8) = v := by
  ext i
  grind [be16]

@[simp] theorem be32_of_bytes (v : U32) :
    be32 (v.extractLsb' 24 8) (v.extractLsb' 16 8) (v.extractLsb' 8 8) (v.extractLsb' 0 8) = v := by
  ext i
  grind [be32]

/-! ### Headers (R81, R114, R115) -/

@[simp] theorem fcCount_paramsC (n : U32) : fcCount (paramsC n) = n := be32_of_bytes n

@[simp] theorem paramsC_fcCount (p : Params) : paramsC (fcCount p) = p := by simp [paramsC, fcCount]

@[simp] theorem fcDims_paramsD (height width : U16) : fcDims (paramsD height width) = (height, width) := by
  simp [fcDims, paramsD]

@[simp] theorem paramsD_fcDims (p : Params) : paramsD (fcDims p).1 (fcDims p).2 = p := by simp [paramsD, fcDims]

@[simp] theorem headerOf_h0 (tag : Byte) (p : Params) : (headerOf tag p).h0 = tag := rfl

@[simp] theorem headerOf_params (tag : Byte) (p : Params) : (headerOf tag p).params = p := rfl

@[simp] theorem headerOf_self (h : Header) : headerOf h.h0 h.params = h := rfl

/-- Every header on a link is decoded as one frame (R84). -/
@[simp] theorem decode_link (k : Tag2Kind) (l : InLink) (h : Header) :
    decode k (.link l) h.bytes = .ok (decodeFrame k l h) := rfl

/-! ### What an encoding is -/

theorem encode_of_header {i : Instr} {l : InLink} {h : Header} (hi : i.header = some (l, h)) :
    encode i = some (.link l, h.bytes) := by
  simp [encode, hi]

/-- No row is a frame and a host operation at once. -/
theorem header_of_command {i : Instr} {bs : List Byte} (hi : i.command = some bs) : i.header = none := by
  cases i <;> cases hi <;> rfl

theorem encode_of_command {i : Instr} {bs : List Byte} (hi : i.command = some bs) : encode i = some (.command, bs) := by
  simp [encode, header_of_command hi, hi]

/-- An encoding is a header on its link, or a command on the command port (R80, R96). -/
theorem encode_eq_some {i : Instr} {p : Port} {bs : List Byte} (hi : encode i = some (p, bs)) :
    (∃ l h, i.header = some (l, h) ∧ p = .link l ∧ bs = h.bytes) ∨ (i.command = some bs ∧ p = .command) := by
  unfold encode at hi
  split at hi
  next l h hheader =>
    cases hi
    exact .inl ⟨l, h, hheader, rfl, rfl⟩
  next =>
    obtain ⟨bs', hcommand, hpair⟩ := Option.map_eq_some_iff.mp hi
    cases hpair
    exact .inr ⟨hcommand, rfl⟩

/-! ### The decoder after the encoder -/

/-- The tag of a well-formed FRAME.unrecognised is none of the six (R87). -/
theorem ofByte_of_wf_unrecognised {k : Tag2Kind} {l : InLink} {tag : Byte} {x : Params}
    (hwf : (Instr.frameUnrecognised l tag x).wf k = true) : Tag.ofByte tag = none := by
  rw [Machine.Tag.ofByte_eq_none_iff]
  simpa [Instr.wf] using hwf

/-- A header that encodes a well-formed frame is decoded as that frame (R84 to R87). -/
theorem decodeFrame_of_header {k : Tag2Kind} {i : Instr} {l : InLink} {h : Header} (hwf : i.wf k = true)
    (hi : i.header = some (l, h)) : decodeFrame k l h = i := by
  cases i <;> cases hi
  case frameRawBytes n => exact congrArg _ (fcCount_paramsC n)
  case frameImage8Bit height width =>
    obtain rfl : k = .image8Bit := eq_of_beq hwf
    exact congrArg (fun d : U16 × U16 => Instr.frameImage8Bit l d.1 d.2) (fcDims_paramsD height width)
  case frameRawBytesWithWake n =>
    obtain rfl : k = .rawBytesWithWake := eq_of_beq hwf
    exact congrArg _ (fcCount_paramsC n)
  case frameStringData n => exact congrArg _ (fcCount_paramsC n)
  case frameImage3Bit height width =>
    exact congrArg (fun d : U16 × U16 => Instr.frameImage3Bit l d.1 d.2) (fcDims_paramsD height width)
  case frameAck n => exact congrArg _ (fcCount_paramsC n)
  case frameNak x => rfl
  case frameUnrecognised tag x => simp [decodeFrame, ofByte_of_wf_unrecognised hwf]

/-! ### One equation for each listed code (R96) -/

section ListedCodes

variable (t a b c d e s3 s2 s1 s0 h1 h0 w1 w0 d3 d2 d1 d0 : Byte)

theorem decodeCommand_fcEncode : decodeCommand [0x01, t, a, b, c, d] = .ok (.fcEncode t ⟨a, b, c, d⟩) := rfl

theorem decodeCommand_fcDecode : decodeCommand [0x02, a, b, c, d, e] = .ok (.fcDecode ⟨a, b, c, d, e⟩) := rfl

theorem decodeCommand_icPack3 :
    decodeCommand [0x03, s3, s2, s1, s0, h1, h0, w1, w0, d3, d2, d1, d0] =
      .ok (.icPack3 (be32 s3 s2 s1 s0) (be16 h1 h0) (be16 w1 w0) (be32 d3 d2 d1 d0)) := rfl

theorem decodeCommand_icUnpack3 :
    decodeCommand [0x04, s3, s2, s1, s0, w1, w0, h1, h0, d3, d2, d1, d0] =
      .ok (.icUnpack3 (be32 s3 s2 s1 s0) (be16 w1 w0) (be16 h1 h0) (be32 d3 d2 d1 d0)) := rfl

theorem decodeCommand_txStart :
    decodeCommand [0x05, t, a, b, c, d, s3, s2, s1, s0] = .ok (.txStart t ⟨a, b, c, d⟩ (be32 s3 s2 s1 s0)) := rfl

theorem decodeCommand_rxRestart : decodeCommand [0x06] = .ok .rxRestart := rfl

theorem decodeCommand_regRead : decodeCommand [0x07, a] = .ok (.regRead a) := rfl

theorem decodeCommand_memWrite :
    decodeCommand [0x08, s3, s2, s1, s0, a] = .ok (.memWrite (be32 s3 s2 s1 s0) a) := rfl

theorem decodeCommand_memRead : decodeCommand [0x09, s3, s2, s1, s0] = .ok (.memRead (be32 s3 s2 s1 s0)) := rfl

end ListedCodes

/-- A code that is not listed takes no operands (R97). -/
theorem operandBytes_eq_none_iff (code : Byte) : operandBytes code = none ↔ code = 0 ∨ 10 ≤ code.toNat := by
  revert code
  decide

/-- A code that is not listed is HOST.invalid, whatever follows it (R97, log 14). -/
theorem decodeCommand_of_unlisted {code : Byte} (ops : List Byte) (h : code = 0 ∨ 10 ≤ code.toNat) :
    decodeCommand (code :: ops) = .ok (.hostInvalid code) := by
  simp [decodeCommand, (operandBytes_eq_none_iff code).mpr h]

theorem wf_hostInvalid_iff (k : Tag2Kind) (code : Byte) :
    (Instr.hostInvalid code).wf k = true ↔ code = 0 ∨ 10 ≤ code.toNat := by
  simp [Instr.wf]

/-- The bytes of a well-formed host operation are decoded as that operation (R96, R97). -/
theorem decodeCommand_of_command {k : Tag2Kind} {i : Instr} {bs : List Byte} (hwf : i.wf k = true)
    (hi : i.command = some bs) : decodeCommand bs = .ok i := by
  cases i <;> cases hi
  case fcEncode t p => exact decodeCommand_fcEncode ..
  case fcDecode h => exact decodeCommand_fcDecode ..
  case icPack3 src height width dst =>
    refine (decodeCommand_icPack3 ..).trans ?_
    simp only [be32_of_bytes, be16_of_bytes]
  case icUnpack3 src width height dst =>
    refine (decodeCommand_icUnpack3 ..).trans ?_
    simp only [be32_of_bytes, be16_of_bytes]
  case txStart t p base =>
    refine (decodeCommand_txStart ..).trans ?_
    simp only [be32_of_bytes]
  case rxRestart => exact decodeCommand_rxRestart
  case regRead r => exact decodeCommand_regRead r
  case memWrite a v =>
    refine (decodeCommand_memWrite ..).trans ?_
    simp only [be32_of_bytes]
  case memRead a =>
    refine (decodeCommand_memRead ..).trans ?_
    simp only [be32_of_bytes]
  case hostInvalid code => exact decodeCommand_of_unlisted [] ((wf_hostInvalid_iff k code).mp hwf)

/-- Settles O6: a frame by its header, a host operation by its bytes. -/
theorem decodeInvertsEncode : Obligations.DecodeInvertsEncode := by
  intro k i p bs hwf hi
  rcases encode_eq_some hi with ⟨l, h, hheader, rfl, rfl⟩ | ⟨hcommand, rfl⟩
  · rw [decode_link, decodeFrame_of_header hwf hheader]
  · exact decodeCommand_of_command hwf hcommand

/-! ### The encoder after the decoder -/

/-- Every header is decoded as a well-formed frame, which has that header (R84 to R87). -/
theorem wf_and_header_decodeFrame (k : Tag2Kind) (l : InLink) (h : Header) :
    (decodeFrame k l h).wf k = true ∧ (decodeFrame k l h).header = some (l, h) := by
  cases htag : Tag.ofByte h.h0 with
  | none =>
    have hwf := (Machine.Tag.ofByte_eq_none_iff h.h0).mp htag
    simpa [decodeFrame, htag, Instr.wf, Instr.header] using hwf
  | some t =>
    have hself : headerOf t.byte h.params = h := (Machine.Tag.ofByte_eq_some_iff h.h0 t).mp htag ▸ headerOf_self h
    cases t with
    | tag2 => cases k <;> simpa [decodeFrame, htag, Instr.wf, Instr.header, Tag.byte] using hself
    | _ => simpa [decodeFrame, htag, Instr.wf, Instr.header, Tag.byte] using hself

/-! The bytes of the operations whose operands are assembled of more than one byte (R96). -/

@[simp] theorem command_icPack3 (src : U32) (height width : U16) (dst : U32) :
    (Instr.icPack3 src height width dst).command =
      some (0x03 :: (bytesBe32 src ++ bytesBe16 height ++ bytesBe16 width ++ bytesBe32 dst)) := rfl

@[simp] theorem command_icUnpack3 (src : U32) (width height : U16) (dst : U32) :
    (Instr.icUnpack3 src width height dst).command =
      some (0x04 :: (bytesBe32 src ++ bytesBe16 width ++ bytesBe16 height ++ bytesBe32 dst)) := rfl

@[simp] theorem command_txStart (tag : Byte) (p : Params) (base : U32) :
    (Instr.txStart tag p base).command = some (0x05 :: tag :: p.p0 :: p.p1 :: p.p2 :: p.p3 :: bytesBe32 base) := rfl

@[simp] theorem command_memWrite (addr : U32) (v : Byte) :
    (Instr.memWrite addr v).command = some (0x08 :: (bytesBe32 addr ++ [v])) := rfl

@[simp] theorem command_memRead (addr : U32) : (Instr.memRead addr).command = some (0x09 :: bytesBe32 addr) := rfl

theorem mem_listed_codes {code : Byte} (h1 : 1 ≤ code.toNat) (h9 : code.toNat ≤ 9) :
    code ∈ ([0x01, 0x02, 0x03, 0x04, 0x05, 0x06, 0x07, 0x08, 0x09] : List Byte) := by
  revert code
  decide

/-- A listed code with operands that decode is a well-formed operation, whose bytes they are (R96): each code has one
pattern of operands, and operands of another length are none. -/
theorem wf_and_command_of_decodeOperands (k : Tag2Kind) {code : Byte} {ops : List Byte} {i : Instr}
    (hcode : code ∈ ([0x01, 0x02, 0x03, 0x04, 0x05, 0x06, 0x07, 0x08, 0x09] : List Byte))
    (h : decodeOperands code ops = some i) : i.wf k = true ∧ i.command = some (code :: ops) := by
  simp only [List.mem_cons, List.not_mem_nil, or_false] at hcode
  rcases hcode with rfl | rfl | rfl | rfl | rfl | rfl | rfl | rfl | rfl
  · match ops, h with
    | [t, a, b, c, d], rfl => exact ⟨rfl, rfl⟩
  · match ops, h with
    | [a, b, c, d, e], rfl => exact ⟨rfl, rfl⟩
  · match ops, h with
    | [s3, s2, s1, s0, h1, h0, w1, w0, d3, d2, d1, d0], rfl => exact ⟨rfl, by simp⟩
  · match ops, h with
    | [s3, s2, s1, s0, w1, w0, h1, h0, d3, d2, d1, d0], rfl => exact ⟨rfl, by simp⟩
  · match ops, h with
    | [t, a, b, c, d, b3, b2, b1, b0], rfl => exact ⟨rfl, by simp⟩
  · match ops, h with
    | [], rfl => exact ⟨rfl, rfl⟩
  · match ops, h with
    | [r], rfl => exact ⟨rfl, rfl⟩
  · match ops, h with
    | [a3, a2, a1, a0, v], rfl => exact ⟨rfl, by simp⟩
  · match ops, h with
    | [a3, a2, a1, a0], rfl => exact ⟨rfl, by simp⟩

/-- A listed code decodes only by its operands (R96). -/
theorem decodeOperands_of_decodeCommand {code : Byte} {ops : List Byte} {i : Instr}
    (hcode : operandBytes code ≠ none) (h : decodeCommand (code :: ops) = .ok i) :
    decodeOperands code ops = some i := by
  obtain ⟨n, hn⟩ := Option.ne_none_iff_exists'.mp hcode
  simp only [decodeCommand, hn] at h
  split at h
  next j hj =>
    cases h
    exact hj
  next => cases h

/-- Settles O7: a header by its tag, a listed command by its code; an unlisted code has one decoding. -/
theorem encodeGivesBackTheDecodedBytes : Obligations.EncodeGivesBackTheDecodedBytes := by
  refine ⟨?headers, ?commands, ?empty, fun _ => decodeCommand_of_unlisted⟩
  case headers =>
    intro k l h
    obtain ⟨hwf, hheader⟩ := wf_and_header_decodeFrame k l h
    exact ⟨hwf, encode_of_header hheader⟩
  case commands =>
    intro k c ops i hi
    by_cases hc : c = 0 ∨ 10 ≤ c.toNat
    · rw [decodeCommand_of_unlisted ops hc] at hi
      cases hi
      refine ⟨(wf_hostInvalid_iff k c).mpr hc, fun h1 h9 => ?_, fun _ => ⟨rfl, rfl⟩⟩
      rcases hc with rfl | h10
      · exact absurd h1 (by decide)
      · omega
    · have hpos : 1 ≤ c.toNat := by bv_omega
      have hops := decodeOperands_of_decodeCommand (fun hn => hc ((operandBytes_eq_none_iff c).mp hn)) hi
      obtain ⟨hwf, hcommand⟩ :=
        wf_and_command_of_decodeOperands k (mem_listed_codes hpos (by omega)) hops
      exact ⟨hwf, fun _ _ => encode_of_command hcommand, fun h => absurd h hc⟩
  case empty => exact fun _ => nofun

/-- Settles O5: the commands by the equations of their codes, the frames by their tags. -/
theorem wordsOfTheSpecDecode : Obligations.WordsOfTheSpecDecode :=
  ⟨decodeCommand_txStart .., decodeCommand_icPack3 .., decodeCommand_icUnpack3 .., decodeCommand_memWrite ..,
    decodeCommand_of_unlisted [] (by decide), rfl, rfl, rfl, rfl, rfl, rfl⟩

end Sys2Proof

/-! PROOFS. What the next step is (spec/30_encoding.md R96 to R99, R104; spec/00_scope.md R14): a unit has one step its
state and inputs leave it, a step runs the bytes it decodes or gives a unit its turn, and what a host operation can
answer, said once for all ten. -/

namespace Sys2Proof.Machine

/-! ### When a step is enabled (R99), the guards that read more than one register -/

@[simp] theorem aqHeadIs_iff (v : Entry) (s : State) : aqHeadIs v s = true ↔ s.aq.head? = some v := by
  simp [aqHeadIs]

@[simp] theorem aqEmpty_iff (s : State) : aqEmpty s = true ↔ s.aq.head? = none := by
  simp [aqEmpty]

/-- The head of the queue is there, is not the value `v` and is no Nak: it is an Ack of another value. -/
theorem aqHead_other_iff (v : U32) (s : State) :
    (aqEmpty s = false ∧ aqHeadIs (.val v) s = false ∧ aqHeadIs .nak s = false) ↔
      ∃ w, s.aq.head? = some (.val w) ∧ w ≠ v := by
  simp only [← Bool.not_eq_true, aqEmpty_iff, aqHeadIs_iff]
  rcases s.aq.head? with _ | _ | w <;> simp

theorem onTxHsAck_iff (s : State) :
    onTxHsAck s = true ↔ s.txState = .hsWait ∧ s.errOut = false ∧ s.aq.head? = some (.val s.totalLen) := by
  simp [onTxHsAck, and_assoc]

theorem onTxHsNak_iff (s : State) :
    onTxHsNak s = true ↔ s.txState = .hsWait ∧ s.errOut = false ∧ s.aq.head? = some .nak := by
  simp [onTxHsNak, and_assoc]

theorem onTxHsMismatch_iff (s : State) :
    onTxHsMismatch s = true ↔
      s.txState = .hsWait ∧ s.errOut = false ∧ ∃ v, s.aq.head? = some (.val v) ∧ v ≠ s.totalLen := by
  rw [← aqHead_other_iff]
  simp [onTxHsMismatch, and_assoc, -Bool.not_eq_true]

theorem onTxHsTimeout_iff (s : State) :
    onTxHsTimeout s = true ↔ s.txState = .hsWait ∧ s.errOut = false ∧ s.aq.head? = none ∧ s.wd = 0 := by
  simp [onTxHsTimeout, and_assoc]

theorem onTxChunkAck_iff (s : State) :
    onTxChunkAck s = true ↔ s.txState = .chunkWait ∧ s.errOut = false ∧ s.aq.head? = some (.val s.expect) := by
  simp [onTxChunkAck, and_assoc]

theorem onTxChunkNak_iff (s : State) :
    onTxChunkNak s = true ↔ s.txState = .chunkWait ∧ s.errOut = false ∧ s.aq.head? = some .nak := by
  simp [onTxChunkNak, and_assoc]

theorem onTxChunkMismatch_iff (s : State) :
    onTxChunkMismatch s = true ↔
      s.txState = .chunkWait ∧ s.errOut = false ∧ ∃ v, s.aq.head? = some (.val v) ∧ v ≠ s.expect := by
  rw [← aqHead_other_iff]
  simp [onTxChunkMismatch, and_assoc, -Bool.not_eq_true]

theorem onTxChunkTimeout_iff (s : State) :
    onTxChunkTimeout s = true ↔ s.txState = .chunkWait ∧ s.errOut = false ∧ s.aq.head? = none ∧ s.wd = 0 := by
  simp [onTxChunkTimeout, and_assoc]

theorem onTxLinkErr_iff (s : State) : onTxLinkErr s = true ↔ s.txState ≠ .idle ∧ s.errOut = true := by
  simp [onTxLinkErr, txBusy]

theorem onRxHdrByte_iff (s : State) :
    onRxHdrByte s = true ↔ s.rxState = .hdr ∧ s.rxCnt.toNat < 4 ∧ s.inb ≠ [] ∧ s.errInb = false := by
  simp [onRxHdrByte, and_assoc]

theorem onRxTimeout_iff (s : State) :
    onRxTimeout s = true ↔
      0 < s.cfg.rxTimeoutTicks ∧ rxInFrame s = true ∧ s.inb = [] ∧ s.rxWd = 0 ∧ s.errInb = false := by
  simp [onRxTimeout, and_assoc]

theorem onRxLinkErr_iff (s : State) : onRxLinkErr s = true ↔ s.rxState ≠ .error ∧ s.errInb = true := by
  simp [onRxLinkErr]

/-- A step on the completed header: AL is at the fifth byte, on a healthy link, and the header's tag is the step's
(R171). -/
theorem onFifth_iff (s : State) (guard : Bool) :
    (alAtFifth s && guard) = true ↔
      (s.alState = .hdr ∧ s.alCnt = 4 ∧ s.ret ≠ [] ∧ s.errRet = false) ∧ guard = true := by
  rw [Bool.and_eq_true, alAtFifth_iff]

/-! ### The one step a unit's state and inputs leave (R99, R304) -/

/-- The step TX takes, if any: LINK_ERR on a failed link, else the state's own, in a wait state by the head of the
queue. In TX_IDLE none is enabled, and LINK_ERR stands in for it. -/
def txStepOf (s : State) : Instr :=
  if s.errOut then .txLinkErr
  else
    match s.txState, s.aq.head? with
    | .idle, _ => .txLinkErr
    | .hsSend, _ => .txHsByte
    | .hsWait, none => .txHsTimeout
    | .hsWait, some .nak => .txHsNak
    | .hsWait, some (.val v) => if v = s.totalLen then .txHsAck else .txHsMismatch
    | .chunkSend, _ => .txChunkByte
    | .chunkWait, none => .txChunkTimeout
    | .chunkWait, some .nak => .txChunkNak
    | .chunkWait, some (.val v) => if v = s.expect then .txChunkAck else .txChunkMismatch

/-- The step AL takes, if any: LINK_ERR on a failed link, else the next header byte, the fifth by the header's tag, or
the next byte of a diagnostic line. In AL_ERROR none is enabled. -/
def alStepOf (s : State) : Instr :=
  if s.errRet then .alLinkErr
  else
    match s.alState with
    | .error => .alLinkErr
    | .diag => .alDiagByte
    | .hdr =>
      if s.alCnt = 4 then
        match Tag.ofByte s.alHdr.h0 with
        | some .ack => .alFrameAck
        | some .nak => .alFrameNak
        | some .stringData => .alFrameStr
        | some .rawBytes | some .tag2 | some .image3Bit => .alFrameDropPayloadKind
        | none => .alFrameDropUnknown
      else .alHdrByte

/-- The step RX takes, if any: LINK_ERR on a failed link, the deadline's on an empty one, else the next byte's. In
RX_ERROR none is enabled. -/
def rxStepOf (s : State) : Instr :=
  if s.errInb then .rxLinkErr
  else if s.inb = [] then .rxTimeout
  else
    match s.rxState with
    | .error => .rxLinkErr
    | .payload => .rxPayByte
    | .hdr => if s.rxCnt = 4 then .rxHdrDone else .rxHdrByte

theorem eq_txStepOf {i : Instr} {s : State} (hi : unitOf i = some .tx) (hon : enabled i s = true) :
    i = txStepOf s := by
  cases i <;> cases hi
  case txHsByte =>
    obtain ⟨hstate, herr⟩ := (onTxHsByte_iff s).mp hon
    simp [txStepOf, hstate, herr]
  case txHsAck =>
    obtain ⟨hstate, herr, hhead⟩ := (onTxHsAck_iff s).mp hon
    simp [txStepOf, hstate, herr, hhead]
  case txHsNak =>
    obtain ⟨hstate, herr, hhead⟩ := (onTxHsNak_iff s).mp hon
    simp [txStepOf, hstate, herr, hhead]
  case txHsMismatch =>
    obtain ⟨hstate, herr, v, hhead, hv⟩ := (onTxHsMismatch_iff s).mp hon
    simp [txStepOf, hstate, herr, hhead, hv]
  case txHsTimeout =>
    obtain ⟨hstate, herr, hhead, -⟩ := (onTxHsTimeout_iff s).mp hon
    simp [txStepOf, hstate, herr, hhead]
  case txChunkByte =>
    obtain ⟨hstate, herr⟩ := (onTxChunkByte_iff s).mp hon
    simp [txStepOf, hstate, herr]
  case txChunkAck =>
    obtain ⟨hstate, herr, hhead⟩ := (onTxChunkAck_iff s).mp hon
    simp [txStepOf, hstate, herr, hhead]
  case txChunkNak =>
    obtain ⟨hstate, herr, hhead⟩ := (onTxChunkNak_iff s).mp hon
    simp [txStepOf, hstate, herr, hhead]
  case txChunkMismatch =>
    obtain ⟨hstate, herr, v, hhead, hv⟩ := (onTxChunkMismatch_iff s).mp hon
    simp [txStepOf, hstate, herr, hhead, hv]
  case txChunkTimeout =>
    obtain ⟨hstate, herr, hhead, -⟩ := (onTxChunkTimeout_iff s).mp hon
    simp [txStepOf, hstate, herr, hhead]
  case txLinkErr =>
    obtain ⟨-, herr⟩ := (onTxLinkErr_iff s).mp hon
    simp [txStepOf, herr]

theorem eq_alStepOf {i : Instr} {s : State} (hi : unitOf i = some .al) (hon : enabled i s = true) :
    i = alStepOf s := by
  cases i <;> cases hi
  case alHdrByte =>
    obtain ⟨hstate, hcnt, -, herr⟩ := (onAlHdrByte_iff s).mp hon
    have hne : s.alCnt ≠ 4#3 := by bv_omega
    simp [alStepOf, hstate, herr, hne]
  case alFrameAck =>
    obtain ⟨⟨hstate, hcnt, -, herr⟩, htag⟩ := (onFifth_iff s _).mp hon
    simp [alStepOf, hstate, herr, hcnt, eq_of_beq htag]
  case alFrameNak =>
    obtain ⟨⟨hstate, hcnt, -, herr⟩, htag⟩ := (onFifth_iff s _).mp hon
    simp [alStepOf, hstate, herr, hcnt, eq_of_beq htag]
  case alFrameStr =>
    obtain ⟨⟨hstate, hcnt, -, herr⟩, htag⟩ := (onFifth_iff s _).mp hon
    simp [alStepOf, hstate, herr, hcnt, eq_of_beq htag]
  case alFrameDropUnknown =>
    obtain ⟨⟨hstate, hcnt, -, herr⟩, htag⟩ := (onFifth_iff s _).mp hon
    simp [alStepOf, hstate, herr, hcnt, eq_of_beq htag]
  case alFrameDropPayloadKind =>
    obtain ⟨⟨hstate, hcnt, -, herr⟩, htag⟩ := (onFifth_iff s _).mp hon
    simp only [Bool.or_eq_true, beq_iff_eq] at htag
    rcases htag with (htag | htag) | htag <;> simp [alStepOf, hstate, herr, hcnt, htag]
  case alDiagByte =>
    obtain ⟨hstate, -, herr⟩ := (onAlDiagByte_iff s).mp hon
    simp [alStepOf, hstate, herr]
  case alLinkErr =>
    obtain ⟨-, herr⟩ := (onAlLinkErr_iff s).mp hon
    simp [alStepOf, herr]

theorem eq_rxStepOf {i : Instr} {s : State} (hi : unitOf i = some .rx) (hon : enabled i s = true) :
    i = rxStepOf s := by
  cases i <;> cases hi
  case rxHdrByte =>
    obtain ⟨hstate, hcnt, hinb, herr⟩ := (onRxHdrByte_iff s).mp hon
    have hne : s.rxCnt ≠ 4#3 := by bv_omega
    simp [rxStepOf, hstate, herr, hinb, hne]
  case rxHdrDone =>
    obtain ⟨hstate, hcnt, hinb, herr⟩ := (onRxHdrDone_iff s).mp hon
    simp [rxStepOf, hstate, herr, hinb, hcnt]
  case rxPayByte =>
    obtain ⟨hstate, hinb, herr⟩ := (onRxPayByte_iff s).mp hon
    simp [rxStepOf, hstate, herr, hinb]
  case rxTimeout =>
    obtain ⟨-, -, hinb, -, herr⟩ := (onRxTimeout_iff s).mp hon
    simp [rxStepOf, herr, hinb]
  case rxLinkErr =>
    obtain ⟨-, herr⟩ := (onRxLinkErr_iff s).mp hon
    simp [rxStepOf, herr]

/-- Two enabled steps of one unit are the same step (R99). -/
theorem enabled_unique {u : UnitName} {i j : Instr} {s : State} (hi : unitOf i = some u) (hj : unitOf j = some u)
    (hion : enabled i s = true) (hjon : enabled j s = true) : i = j := by
  cases u with
  | tx => rw [eq_txStepOf hi hion, eq_txStepOf hj hjon]
  | al => rw [eq_alStepOf hi hion, eq_alStepOf hj hjon]
  | rx => rw [eq_rxStepOf hi hion, eq_rxStepOf hj hjon]

/-- The rows of R304's lists are all the steps of their units. -/
theorem mem_unitSteps {u : UnitName} {i : Instr} (hi : unitOf i = some u) : i ∈ unitSteps u := by
  cases i <;> cases hi <;> simp [unitSteps]

/-- An enabled step of a unit is the one selected (R99). -/
theorem select_of_enabled {u : UnitName} {i : Instr} {s : State} (hi : unitOf i = some u) (hon : enabled i s = true) :
    select u s = some i := by
  have hsome : (select u s).isSome := List.find?_isSome.mpr ⟨i, mem_unitSteps hi, hon⟩
  obtain ⟨j, hj⟩ := Option.isSome_iff_exists.mp hsome
  obtain ⟨hju, hjon⟩ := select_enabled hj
  rw [hj, enabled_unique hi hju hon hjon]

theorem select_eq_some_iff (u : UnitName) (s : State) (i : Instr) :
    select u s = some i ↔ unitOf i = some u ∧ enabled i s = true :=
  ⟨select_enabled, fun ⟨hi, hon⟩ => select_of_enabled hi hon⟩

/-- Settles O37: a unit's enabled step is determined by its state and inputs, so the first of the list is the only
one. -/
theorem selectionIsTheOneEnabledStep : Obligations.SelectionIsTheOneEnabledStep := by
  refine ⟨select_eq_some_iff, fun s i j hij hi hion hjon => ?_⟩
  obtain ⟨u, hu⟩ := Option.ne_none_iff_exists'.mp hi
  exact enabled_unique hu (hij ▸ hu) hion hjon

/-! ### What a step runs (R14, R84, R96) -/

section StepRuns

variable {s : State} {rest : List AgendaItem}

theorem step_of_command {bs : List Byte} {i : Instr} (h : s.agenda = .command bs :: rest)
    (hd : decode s.cfg.tag2Kind .command bs = .ok i) : step s = exec i { s with agenda := rest } := by
  rw [step_eq, h]
  simp only [hd]

theorem step_of_bad_command {bs : List Byte} {e : DecodeError} (h : s.agenda = .command bs :: rest)
    (hd : decode s.cfg.tag2Kind .command bs = .error e) : step s = .refused (.malformedCommand e) := by
  rw [step_eq, h]
  simp only [hd]

theorem step_of_frame {l : InLink} {h : Header} (ha : s.agenda = .frame l h :: rest) :
    step s = exec (decodeFrame s.cfg.tag2Kind l h) { s with agenda := rest } := by
  rw [step_eq, ha]

theorem step_of_tick (h : s.agenda = .tick :: rest) : step s = exec .tick { s with agenda := rest } := by
  rw [step_eq, h]

theorem step_of_turn {u : UnitName} (h : s.agenda = .turn u :: rest) :
    step s = runOrWait (select u { s with agenda := rest }) { s with agenda := rest } := by
  rw [step_eq, h]
  cases hu : select u { s with agenda := rest } <;> simp [hu, runOrWait]

/-- With an empty agenda the block takes a step of its own, or waits (log 2). -/
theorem step_of_no_choice (h : s.agenda = []) : step s = runOrWait (selectAny s) s := by
  rw [step_eq, h]
  cases selectAny s <;> rfl

end StepRuns

/-- Settles O1: the choice is taken off the agenda and its bytes are decoded. -/
theorem stepRunsTheDecodedInstruction : Obligations.StepRunsTheDecodedInstruction := by
  refine ⟨fun _ _ _ _ => step_of_command, fun s l h rest i ha hd => ?_, fun _ _ _ _ => step_of_bad_command⟩
  rw [decode_link] at hd
  cases hd
  exact step_of_frame ha

/-- Settles O2: a turn runs what is selected; with an empty agenda the units are asked in the order of log 2. -/
theorem stepGivesTheTurnToAUnit : Obligations.StepGivesTheTurnToAUnit := by
  refine ⟨?turnRuns, ?turnWaits, fun _ _ => step_of_tick, ?al, ?tx, ?rx, ?allWait⟩
  case turnRuns =>
    intro s u rest i ha hi
    rw [step_of_turn ha, hi, runOrWait]
  case turnWaits =>
    intro s u rest ha hi
    rw [step_of_turn ha, hi, runOrWait]
  case al =>
    intro s i ha hal
    simp [step_of_no_choice ha, selectAny, hal, runOrWait]
  case tx =>
    intro s i ha hal htx
    simp [step_of_no_choice ha, selectAny, hal, htx, runOrWait]
  case rx =>
    intro s i ha hal htx hrx
    simp [step_of_no_choice ha, selectAny, hal, htx, hrx, runOrWait]
  case allWait =>
    intro s ha hal htx hrx
    simp [step_of_no_choice ha, selectAny, hal, htx, hrx, runOrWait]

/-! ### What a host operation can answer (R261, R306) -/

/-- All that a host operation can answer in `s`: it changes only the result, or it is accepted and has changed only MEM,
or it is an accepted TX.START or RX.RESTART. None of them faults. -/
inductive HostAnswers (i : Instr) (s : State) : StepOutcome → Prop
  | answered (r : Result) : HostAnswers i s (.next { s with result := r })
  | wroteMem (m : Memory) : HostAnswers i s (.next { s with mem := m, result := .status .accepted })
  | txStarted (tag : Byte) (params : Params) (base : U32) (t : State) (hi : i = .txStart tag params base) :
      HostAnswers i s (.next (setResult (.status .accepted) t))
  | rxResumed (hi : i = .rxRestart) : HostAnswers i s (.next (setResult (.status .accepted) (rxResume s)))

theorem hostAnswers_execTxStart (tag : Byte) (params : Params) (base : U32) (s : State) :
    HostAnswers (.txStart tag params base) s (execTxStart tag params base s) := by
  unfold execTxStart
  split
  next => exact .answered _
  next =>
    split
    next =>
      split
      next => exact .answered _
      next => exact .txStarted tag params base _ rfl
    next => exact .txStarted tag params base _ rfl

theorem hostAnswers_exec {i : Instr} {bs : List Byte} (hi : i.command = some bs) (s : State) :
    HostAnswers i s (exec i s) := by
  cases i <;> cases hi
  case fcEncode tag params =>
    show HostAnswers _ s (execFcEncode tag params s)
    unfold execFcEncode
    split <;> exact .answered _
  case fcDecode h =>
    show HostAnswers _ s (execFcDecode h s)
    unfold execFcDecode
    split <;> exact .answered _
  case icPack3 src height width dst =>
    show HostAnswers _ s (execIcPack3 src height width dst s)
    unfold execIcPack3
    dsimp only
    split
    next => exact .answered _
    next => exact .wroteMem _
  case icUnpack3 src width height dst =>
    show HostAnswers _ s (execIcUnpack3 src width height dst s)
    unfold execIcUnpack3
    dsimp only
    split
    next => exact .answered _
    next => exact .wroteMem _
  case txStart tag params base => exact hostAnswers_execTxStart tag params base s
  case rxRestart =>
    show HostAnswers _ s (execRxRestart s)
    unfold execRxRestart
    split
    next => exact .rxResumed rfl
    next => exact .answered _
  case regRead regno =>
    show HostAnswers _ s (execRegRead regno s)
    unfold execRegRead
    split <;> exact .answered _
  case memWrite addr byte =>
    show HostAnswers _ s (execMemWrite addr byte s)
    unfold execMemWrite
    split
    next => exact .answered _
    next => exact .wroteMem _
  case memRead addr =>
    show HostAnswers _ s (execMemRead addr s)
    unfold execMemRead
    split <;> exact .answered _
  case hostInvalid code => exact .answered _

/-- A rejected host operation has changed nothing (R261). -/
theorem HostAnswers.eq_of_rejected {i : Instr} {s t : State} (h : HostAnswers i s (.next t))
    (hr : t.result = .status .cmdRejected) : t = { s with result := .status .cmdRejected } := by
  cases h with
  | answered r => simpa using hr
  | wroteMem m => cases hr
  | txStarted => cases hr
  | rxResumed => cases hr

/-- A host operation other than TX.START and RX.RESTART changes nothing but MEM and the result (R306). -/
theorem HostAnswers.frame {i : Instr} {s t : State} (h : HostAnswers i s (.next t))
    (htx : ∀ tag params base, i ≠ .txStart tag params base) (hrx : i ≠ .rxRestart) :
    t = { s with mem := t.mem, result := t.result } := by
  cases h with
  | answered r => rfl
  | wroteMem m => rfl
  | txStarted tag params base _ hi => exact absurd hi (htx tag params base)
  | rxResumed hi => exact absurd hi hrx

/-- HOST.invalid is rejected, whatever the code (R97, R269). -/
theorem exec_hostInvalid (code : Byte) (s : State) :
    exec (.hostInvalid code) s = .next { s with result := .status .cmdRejected } := rfl

/-- Settles O23: an unlisted code by its decoding, the rest by what a host operation can answer. -/
theorem hostOperationsChangeOnlyWhatTheyMay : Obligations.HostOperationsChangeOnlyWhatTheyMay := by
  refine ⟨exec_hostInvalid, ?unlisted, ?rejected, ?frame⟩
  case unlisted =>
    intro s c bs rest ha hc
    rw [step_of_command ha (decodeCommand_of_unlisted bs hc), exec_hostInvalid]
  case rejected =>
    intro i bs s t hi ht
    exact (ht ▸ hostAnswers_exec hi s).eq_of_rejected
  case frame =>
    intro i bs s t hi htx hrx ht
    exact (ht ▸ hostAnswers_exec hi s).frame htx hrx

/-! ### The host commands (R104) -/

/-- Byte i of the sequence is written at `a + i`, from any byte of it on. -/
theorem hostWrite_eq_map_zipIdx (bs : List Byte) (a : U32) (n : Nat) :
    hostWrite (a + BitVec.ofNat 32 n) bs =
      (bs.zipIdx n).map fun x => .memWrite (a + BitVec.ofNat 32 x.2) x.1 := by
  induction bs generalizing n with
  | nil => rfl
  | cons b bs ih =>
    have hnext : a + BitVec.ofNat 32 n + 1 = a + BitVec.ofNat 32 (n + 1) := by
      rw [BitVec.ofNat_add, BitVec.add_assoc]
      rfl
    rw [hostWrite, hnext, ih, List.zipIdx_cons, List.map_cons]

/-- A matrix with u16 dimensions has fewer than 2^32 bytes (R130). -/
theorem dims_mul_lt (height width : U16) : height.toNat * width.toNat < 2 ^ 32 := by
  calc height.toNat * width.toNat
    _ < 2 ^ 16 * 2 ^ 16 := Nat.mul_lt_mul'' height.isLt width.isLt
    _ = 2 ^ 32 := by norm_num

theorem hostFits_of_matrix {a : U32} {m : List Byte} {height width : U16}
    (hm : m.length = height.toNat * width.toNat) (ha : a.toNat + m.length ≤ 2 ^ 32) : hostFits a m.length = true :=
  (hostFits_iff a m.length).mpr ⟨ha, hm ▸ dims_mul_lt height width⟩

theorem hostFits_eq_false {a : U32} {n : Nat} (h : 2 ^ 32 ≤ n ∨ 2 ^ 32 < a.toNat + n) : hostFits a n = false := by
  rw [← Bool.not_eq_true, hostFits_iff]
  omega

/-- An operation HOST issues is one turn of HOST, whatever it returns (log 21). -/
theorem retryTurn_of_prepare {r : RetryState} {i : Instr} {ops : List Instr} {s t : State}
    (hr : r.phase = .prepare (i :: ops)) (hwf : i.wf s.cfg.tag2Kind = true) (hi : i.command ≠ none)
    (ht : exec i s = .next t) : retryTurn r s = .next ({ r with phase := .prepare ops }, t) := by
  obtain ⟨bs, hbs⟩ := Option.ne_none_iff_exists'.mp hi
  have hd : decode s.cfg.tag2Kind .command (i.command.getD []) = .ok i := by
    rw [hbs]
    exact decodeCommand_of_command hwf hbs
  simp only [retryTurn, hr, hostAct_command hd, ht, withHost_next]

theorem retryTurn_of_prepared {r : RetryState} (s : State) (hr : r.phase = .prepare []) :
    retryTurn r s = .next ({ r with phase := .start }, s) := by
  simp only [retryTurn, hr]

/-- Settles O60: each command by its size condition, the writes by induction on the bytes, the turns by their phase. -/
theorem hostCommandsExpandToOperations : Obligations.HostCommandsExpandToOperations := by
  refine ⟨?image8, ?image3, ?rawAndString, ?writes, fun _ _ _ _ _ => retryTurn_of_prepare,
    fun _ s => retryTurn_of_prepared s, ?otherKind, ?noImage, ?noRawOrString⟩
  case image8 =>
    intro c m height width a hk hm ha
    refine ⟨_, if_pos ⟨hk, hm, hostFits_of_matrix hm ha⟩, rfl, rfl⟩
  case image3 =>
    intro m height width a b mode hm ha
    refine ⟨_, if_pos ⟨hm, hostFits_of_matrix hm ha⟩, rfl, ?_⟩
    simp [HostProgram.ops, Attempt.start]
  case rawAndString =>
    intro m a mode hm ha
    have hfits := (hostFits_iff a m.length).mpr ⟨ha, hm⟩
    exact ⟨⟨_, if_pos hfits, rfl, rfl⟩, ⟨_, if_pos hfits, rfl, rfl⟩⟩
  case writes =>
    intro a m
    simpa using hostWrite_eq_map_zipIdx m a 0
  case otherKind =>
    intro c m height width a hk
    exact if_neg fun h => hk h.1
  case noImage =>
    intro c m height width a b mode h
    have hno : ¬(m.length = height.toNat * width.toNat ∧ hostFits a m.length = true) := by
      rintro ⟨hm, hfits⟩
      obtain ⟨ha, -⟩ := (hostFits_iff a m.length).mp hfits
      omega
    exact ⟨if_neg fun h => hno h.2, if_neg hno⟩
  case noRawOrString =>
    intro m a mode h
    have hno := hostFits_eq_false h
    exact ⟨by simp [hostSendRaw, hno], by simp [hostSendString, hno]⟩

end Sys2Proof.Machine

/-! PROOFS. A whole frame on the inbound link (spec/30_encoding.md R91; spec/44_chunk_receiver.md R230 to R245): what a
turn of RX does with a header byte, with the byte that completes a header and with a payload byte; then the run over the
five header bytes, and over the payload by induction on its bytes. -/

namespace Sys2Proof.Machine

/-! ### A turn of RX -/

/-- The turn of a unit with an enabled step runs that step (R99). -/
theorem step_of_enabled {u : UnitName} {i : Instr} {s : State} (hi : unitOf i = some u) (hon : enabled i s = true) :
    step { s with agenda := .turn u :: s.agenda } = exec i s := by
  have hselect : select u s = some i := select_of_enabled hi hon
  exact (step_of_turn rfl).trans (by rw [hselect, runOrWait])

theorem run_succ_of_step {s t : State} (n : Nat) (h : step s = .next t) :
    Host.Core.run core (n + 1) s = Host.Core.run core n t := by
  have hcore : core.step s = .next t := h
  simp only [Host.Core.run, hcore]

section Turns

variable {s : State} {b : Byte} {bytes : List Byte}

/-- One of the first four header bytes (R231). -/
theorem exec_rxHdrByte_of_cons (hon : onRxHdrByte s = true) (hinb : s.inb = b :: bytes) :
    exec .rxHdrByte s = .next (loadRxWd
      { s with inb := bytes, rxHdr := setHeaderByte s.rxHdr s.rxCnt b, rxCnt := s.rxCnt + 1 }) := by
  simp only [exec, execRxHdrByte, hon, hinb, if_true]

/-- The fifth header byte (R232). -/
theorem exec_rxHdrDone_of_cons (hon : onRxHdrDone s = true) (hinb : s.inb = b :: bytes) :
    exec .rxHdrDone s = .next (rxDispatch
      { s with inb := bytes, rxHdr := { s.rxHdr with h4 := b }, rxCnt := 0 }) := by
  simp only [exec, execRxHdrDone, hon, hinb, if_true]

/-- A payload byte that leaves the frame incomplete (R240). -/
theorem exec_rxPayByte_of_more (hon : onRxPayByte s = true) (hinb : s.inb = b :: bytes)
    (hin : s.rxGot.toNat < s.cfg.maxPayload) (hlen : s.rxGot + 1 ≠ s.rxLen) :
    exec .rxPayByte s = .next (loadRxWd
      { s with inb := bytes, rxbuf := Memory.write s.rxbuf s.rxGot.toNat b, rxGot := s.rxGot + 1 }) := by
  simp only [exec, execRxPayByte, hon, hinb, if_true, if_neg (Nat.not_le_of_lt hin), if_neg hlen]

/-- The payload's last byte, with which the frame is delivered (R240, R245). -/
theorem exec_rxPayByte_of_last (hon : onRxPayByte s = true) (hinb : s.inb = b :: bytes)
    (hin : s.rxGot.toNat < s.cfg.maxPayload) (hlen : s.rxGot + 1 = s.rxLen) :
    exec .rxPayByte s = .next
      { deliver
          { s with inb := bytes, rxbuf := Memory.write s.rxbuf s.rxGot.toNat b, rxGot := s.rxGot + 1 } with
        rxState := .hdr } := by
  simp only [exec, execRxPayByte, hon, hinb, if_true, if_neg (Nat.not_le_of_lt hin), if_pos hlen]

end Turns

/-! ### The header -/

/-- `n` turns of RX. -/
abbrev rxTurns (n : Nat) : List AgendaItem := List.replicate n (.turn .rx)

/-- RX inside a header that began in `s`: `header` is collected up to byte `cnt`, the deadline is loaded, `bytes` are
left on INB and `agenda` is still to come. -/
def inHeader (s : State) (agenda : List AgendaItem) (bytes : List Byte) (header : Header) (cnt : BitVec 3) : State :=
  { s with agenda := agenda, inb := bytes, rxHdr := header, rxCnt := cnt, rxWd := (loadRxWd s).rxWd }

section InHeader

variable {s : State} {agenda : List AgendaItem} {b : Byte} {bytes : List Byte} {header : Header} {cnt : BitVec 3}

/-- Loading the deadline does not look at what a header byte changes. -/
theorem loadRxWd_header :
    loadRxWd { s with agenda := agenda, inb := bytes, rxHdr := header, rxCnt := cnt } =
      inHeader s agenda bytes header cnt := by
  simp only [inHeader, loadRxWd_eq]

/-- Inside a header the deadline is loaded already. -/
theorem loadRxWd_inHeader : loadRxWd (inHeader s agenda bytes header cnt) = inHeader s agenda bytes header cnt := by
  simp only [inHeader, loadRxWd_eq]
  split <;> rfl

/-- The byte that begins a header (R231). -/
theorem step_begins_header (hstate : s.rxState = .hdr) (hcnt : s.rxCnt = 0) (herr : s.errInb = false)
    (hinb : s.inb = b :: bytes) :
    step { s with agenda := .turn .rx :: agenda } =
      .next (inHeader s agenda bytes (setHeaderByte s.rxHdr 0 b) 1) := by
  have hon : enabled .rxHdrByte { s with agenda := agenda } = true :=
    (onRxHdrByte_iff _).mpr ⟨hstate, by simp [hcnt], by simp [hinb], herr⟩
  have hnext : inHeader s agenda bytes (setHeaderByte s.rxHdr s.rxCnt b) (s.rxCnt + 1) =
      inHeader s agenda bytes (setHeaderByte s.rxHdr 0 b) 1 := by
    rw [hcnt]
    rfl
  have hexec := exec_rxHdrByte_of_cons hon hinb
  exact (step_of_enabled rfl hon).trans (hexec.trans (congrArg _ ((loadRxWd_header (s := s)).trans hnext)))

/-- A byte inside a header (R231). -/
theorem step_inHeader (hstate : s.rxState = .hdr) (herr : s.errInb = false) (hcnt : cnt.toNat < 4) :
    step (inHeader s (.turn .rx :: agenda) (b :: bytes) header cnt) =
      .next (inHeader s agenda bytes (setHeaderByte header cnt b) (cnt + 1)) := by
  have hon : enabled .rxHdrByte (inHeader s agenda (b :: bytes) header cnt) = true :=
    (onRxHdrByte_iff _).mpr ⟨hstate, hcnt, List.cons_ne_nil _ _, herr⟩
  have hexec := exec_rxHdrByte_of_cons hon rfl
  have hnext := loadRxWd_inHeader (s := s) (agenda := agenda) (bytes := bytes) (header := setHeaderByte header cnt b)
    (cnt := cnt + 1)
  exact (step_of_enabled rfl hon).trans (hexec.trans (congrArg _ hnext))

/-- The byte that completes a header (R232). -/
theorem step_completes_header (hstate : s.rxState = .hdr) (herr : s.errInb = false) :
    step (inHeader s (.turn .rx :: agenda) (b :: bytes) header 4) =
      .next (rxDispatch (inHeader s agenda bytes { header with h4 := b } 0)) := by
  have hon : enabled .rxHdrDone (inHeader s agenda (b :: bytes) header 4) = true :=
    (onRxHdrDone_iff _).mpr ⟨hstate, rfl, List.cons_ne_nil _ _, herr⟩
  exact (step_of_enabled rfl hon).trans (exec_rxHdrDone_of_cons hon rfl)

end InHeader

/-- Five turns of RX at a header boundary take a header and act on it (R231, R232). -/
theorem run_header {s : State} {h : Header} {bytes : List Byte} (n : Nat) (hstate : s.rxState = .hdr)
    (hcnt : s.rxCnt = 0) (herr : s.errInb = false) (hinb : s.inb = h.bytes ++ bytes) :
    Host.Core.run core (n + 5) { s with agenda := rxTurns (n + 5) } =
      Host.Core.run core n (rxDispatch (inHeader s (rxTurns n) bytes h 0)) :=
  calc Host.Core.run core (n + 5) { s with agenda := rxTurns (n + 5) }
    _ = Host.Core.run core (n + 4) (inHeader s _ (h.h1 :: h.h2 :: h.h3 :: h.h4 :: bytes) _ 1) :=
      run_succ_of_step _ (step_begins_header hstate hcnt herr hinb)
    _ = Host.Core.run core (n + 3) (inHeader s _ (h.h2 :: h.h3 :: h.h4 :: bytes) _ 2) :=
      run_succ_of_step _ (step_inHeader hstate herr (by decide))
    _ = Host.Core.run core (n + 2) (inHeader s _ (h.h3 :: h.h4 :: bytes) _ 3) :=
      run_succ_of_step _ (step_inHeader hstate herr (by decide))
    _ = Host.Core.run core (n + 1) (inHeader s _ (h.h4 :: bytes) _ 4) :=
      run_succ_of_step _ (step_inHeader hstate herr (by decide))
    _ = Host.Core.run core n (rxDispatch (inHeader s (rxTurns n) bytes h 0)) :=
      run_succ_of_step _ (step_completes_header hstate herr)

/-! ### The payload -/

/-- What is delivered of a frame with payload `p` (R245): a packed bitmap goes through IC.UNPACK3. -/
def deliveryOf (c : Config) (tag : Byte) (params : Params) (p : List Byte) : Delivery :=
  ⟨tag, params,
    if Tag.ofByte tag = some .image3Bit then icUnpack3Seq c.unpackLut p (fcDims params).2 (fcDims params).1 else p⟩

theorem deliver_dlv_eq (s : State) :
    (deliver s).dlv = s.dlv ++ [deliveryOf s.cfg s.rxTag s.rxParams (rxbufSeq s s.rxLen.toNat)] := rfl

/-- A byte written behind the first `n` is read after them. -/
theorem rxbufSeq_write_succ (s : State) (n : Nat) (b : Byte) :
    rxbufSeq { s with rxbuf := Memory.write s.rxbuf n b } (n + 1) = rxbufSeq s n ++ [b] := by
  have hbefore : rxbufSeq { s with rxbuf := Memory.write s.rxbuf n b } n = rxbufSeq s n := by
    refine List.map_congr_left fun i hi => ?_
    rw [rxbufByte_write, if_neg (Nat.ne_of_lt (List.mem_range.mp hi))]
  have hlast : rxbufByte { s with rxbuf := Memory.write s.rxbuf n b } n = b := by
    rw [rxbufByte_write, if_pos rfl]
  calc rxbufSeq { s with rxbuf := Memory.write s.rxbuf n b } (n + 1)
    _ = rxbufSeq { s with rxbuf := Memory.write s.rxbuf n b } n ++
          [rxbufByte { s with rxbuf := Memory.write s.rxbuf n b } n] := by
      simp only [rxbufSeq, List.range_succ, List.map_append, List.map_cons, List.map_nil]
    _ = rxbufSeq s n ++ [b] := by rw [hbefore, hlast]

/-- RX pulls a payload: it has stored the bytes `done`, and `left` is what is missing (R240). -/
structure RxPulls (s : State) (done left : List Byte) : Prop where
  state : s.rxState = .payload
  healthy : s.errInb = false
  got : s.rxGot.toNat = done.length
  len : s.rxLen.toNat = done.length + left.length
  fits : s.rxLen.toNat ≤ s.cfg.maxPayload
  stored : rxbufSeq s done.length = done

/-- The payload `p` has been delivered and RX is at the next header boundary, `bytes` left on INB; what RXBUF
and the deadline hold is `buf` and `wd`. -/
def afterPayload (s : State) (p bytes : List Byte) (buf : Memory) (wd : U32) : State :=
  { s with
    agenda := [], inb := bytes, rxbuf := buf, rxWd := wd, rxGot := s.rxLen, rxState := .hdr
    dlv := s.dlv ++ [deliveryOf s.cfg s.rxTag s.rxParams p] }

section Payload

variable {s : State} {done left : List Byte} {b : Byte}

theorem RxPulls.in_rxbuf (h : RxPulls s done (b :: left)) : s.rxGot.toNat < s.cfg.maxPayload := by
  have hgot := h.got
  have hlen := h.len
  have hfits := h.fits
  rw [List.length_cons] at hlen
  omega

/-- The next byte is the last one exactly where none is missing after it. -/
theorem RxPulls.last_iff (h : RxPulls s done (b :: left)) : s.rxGot + 1 = s.rxLen ↔ left = [] := by
  have hgot := h.got
  have hlen := h.len
  rw [List.length_cons] at hlen
  rw [← List.length_eq_zero_iff]
  exact ⟨fun heq => by bv_omega, fun heq => by bv_omega⟩

theorem RxPulls.payByte_enabled (h : RxPulls s done (b :: left)) {bytes : List Byte} (hinb : s.inb = b :: bytes) :
    enabled .rxPayByte s = true :=
  (onRxPayByte_iff s).mpr ⟨h.state, by simp [hinb], h.healthy⟩

/-- The byte RX stores is the next byte of the payload (R240). -/
theorem RxPulls.stored_succ (h : RxPulls s done (b :: left)) :
    rxbufSeq { s with rxbuf := Memory.write s.rxbuf s.rxGot.toNat b } (done ++ [b]).length = done ++ [b] := by
  rw [List.length_append, List.length_singleton, h.got, rxbufSeq_write_succ, h.stored]

/-- RX after a payload byte: it is stored, `bytes` are left on INB, and the deadline is `wd`. -/
def afterByte (s : State) (agenda : List AgendaItem) (b : Byte) (bytes : List Byte) (wd : U32) : State :=
  { s with
    agenda := agenda, inb := bytes, rxbuf := Memory.write s.rxbuf s.rxGot.toNat b, rxGot := s.rxGot + 1, rxWd := wd }

/-- A byte that is not the last leaves one byte less to pull. -/
theorem RxPulls.next {c : Byte} (h : RxPulls s done (b :: c :: left)) (agenda : List AgendaItem)
    (bytes : List Byte) (wd : U32) : RxPulls (afterByte s agenda b bytes wd) (done ++ [b]) (c :: left) where
  state := h.state
  healthy := h.healthy
  got := by
    have hgot := h.got
    have hlen := h.len
    simp only [List.length_cons] at hlen
    simp only [afterByte, List.length_append, List.length_cons, List.length_nil]
    bv_omega
  len := by
    have hlen := h.len
    simp only [List.length_cons] at hlen
    simp only [afterByte, List.length_append, List.length_cons, List.length_nil]
    omega
  fits := h.fits
  stored := h.stored_succ

/-- A turn that pulls a byte which is not the last (R240). -/
theorem RxPulls.step_byte {c : Byte} (h : RxPulls s done (b :: c :: left)) {bytes : List Byte}
    (hinb : s.inb = b :: bytes) (agenda : List AgendaItem) :
    ∃ wd, step { s with agenda := .turn .rx :: agenda } = .next (afterByte s agenda b bytes wd) := by
  have hon : enabled .rxPayByte { s with agenda := agenda } = true := h.payByte_enabled hinb
  have hlen : s.rxGot + 1 ≠ s.rxLen := fun heq => nomatch h.last_iff.mp heq
  have hexec := exec_rxPayByte_of_more hon hinb h.in_rxbuf hlen
  rw [loadRxWd_eq] at hexec
  exact ⟨_, (step_of_enabled rfl hon).trans hexec⟩

/-- The turn that pulls the last byte delivers the payload (R240, R245). -/
theorem RxPulls.step_last (h : RxPulls s done [b]) {bytes : List Byte} (hinb : s.inb = b :: bytes) :
    ∃ buf wd, step { s with agenda := [.turn .rx] } = .next (afterPayload s (done ++ [b]) bytes buf wd) := by
  have hon : enabled .rxPayByte { s with agenda := [] } = true := h.payByte_enabled hinb
  have hlen : s.rxGot + 1 = s.rxLen := h.last_iff.mpr rfl
  have hexec := exec_rxPayByte_of_last hon hinb h.in_rxbuf hlen
  have hstored : rxbufSeq { s with rxbuf := Memory.write s.rxbuf s.rxGot.toNat b } s.rxLen.toNat = done ++ [b] := by
    rw [← h.stored_succ, h.len, List.length_append]
  refine ⟨Memory.write s.rxbuf s.rxGot.toNat b, s.rxWd, (step_of_enabled rfl hon).trans (hexec.trans ?_)⟩
  rw [← hstored, afterPayload, ← hlen, deliver_eq, deliver_dlv_eq]
  rfl

end Payload

/-- As many turns of RX as bytes are missing pull them and deliver the payload (R240, R245). -/
theorem run_payload (left : List Byte) (s : State) (done : List Byte) (b : Byte) (bytes : List Byte)
    (h : RxPulls s done (b :: left)) (hinb : s.inb = b :: (left ++ bytes)) :
    ∃ buf wd, Host.Core.run core (left.length + 1) { s with agenda := rxTurns (left.length + 1) } =
      .next (afterPayload s (done ++ b :: left) bytes buf wd) := by
  induction left generalizing s done b with
  | nil =>
    obtain ⟨buf, wd, hstep⟩ := h.step_last hinb
    exact ⟨buf, wd, run_succ_of_step 0 hstep⟩
  | cons c left ih =>
    obtain ⟨wd, hstep⟩ := h.step_byte hinb (rxTurns (left.length + 1))
    obtain ⟨buf, wd', hrun⟩ := ih _ _ _ (h.next (rxTurns (left.length + 1)) (c :: (left ++ bytes)) wd) rfl
    refine ⟨buf, wd', (run_succ_of_step _ hstep).trans (hrun.trans ?_)⟩
    rw [List.append_assoc]
    rfl

/-! ### The whole frame -/

/-- A header of a recognised tag that announces no payload is delivered at once (R232, R245). -/
theorem rxDispatch_of_empty {s : State} {t : Tag} (htag : Tag.ofByte s.rxHdr.h0 = some t)
    (hlen : fcPaylen s.cfg.tag2Kind t s.rxHdr.params = 0) :
    rxDispatch s = deliver { s with rxTag := s.rxHdr.h0, rxParams := s.rxHdr.params, rxLen := 0, rxGot := 0 } := by
  simp [rxDispatch, htag, hlen]

/-- A header whose payload RXBUF holds is followed by it (R232, R239). -/
theorem rxDispatch_of_payload {s : State} {t : Tag} (htag : Tag.ofByte s.rxHdr.h0 = some t)
    (hpos : 0 < fcPaylen s.cfg.tag2Kind t s.rxHdr.params)
    (hmax : fcPaylen s.cfg.tag2Kind t s.rxHdr.params ≤ s.cfg.maxPayload) :
    rxDispatch s = loadRxWd
      { s with
        rxTag := s.rxHdr.h0, rxParams := s.rxHdr.params
        rxLen := BitVec.ofNat 32 (fcPaylen s.cfg.tag2Kind t s.rxHdr.params), rxGot := 0, rxState := .payload } := by
  simp [rxDispatch, htag, Nat.not_lt_of_le hmax, Nat.ne_of_gt hpos]

/-- RX has taken the header `h` of a frame that began in `s` and is about to pull its payload `p`; `rest` follows on
INB, and the deadline is `wd`. -/
def beforePayload (s : State) (agenda : List AgendaItem) (h : Header) (p rest : List Byte) (wd : U32) : State :=
  { s with
    agenda := agenda, inb := p ++ rest, rxWd := wd, rxHdr := h, rxCnt := 0, rxTag := h.h0, rxParams := h.params
    rxLen := BitVec.ofNat 32 p.length, rxGot := 0, rxState := .payload }

/-- RX has taken the header `h` and the payload `p` of a frame that began in `s`, has delivered them, and is at the next
frame boundary with `rest` left on INB; what RXBUF and the deadline hold is `buf` and `wd`. -/
def afterFrame (s : State) (h : Header) (p rest : List Byte) (buf : Memory) (wd : U32) : State :=
  { s with
    agenda := [], inb := rest, rxbuf := buf, rxWd := wd, rxHdr := h, rxCnt := 0, rxTag := h.h0, rxParams := h.params
    rxLen := BitVec.ofNat 32 p.length, rxGot := BitVec.ofNat 32 p.length, rxState := .hdr
    dlv := s.dlv ++ [deliveryOf s.cfg h.h0 h.params p] }

theorem afterPayload_beforePayload (s : State) (agenda : List AgendaItem) (h : Header) (p rest : List Byte)
    (buf : Memory) (wd wd' : U32) :
    afterPayload (beforePayload s agenda h p rest wd) p rest buf wd' = afterFrame s h p rest buf wd' := rfl

section Frame

variable {s : State} {h : Header} {t : Tag} {p rest : List Byte}

/-- The header of a frame without payload ends the frame. -/
theorem rxDispatch_inHeader_of_empty (hstate : s.rxState = .hdr) (htag : Tag.ofByte h.h0 = some t)
    (hlen : fcPaylen s.cfg.tag2Kind t h.params = 0) :
    rxDispatch (inHeader s [] rest h 0) = afterFrame s h [] rest s.rxbuf (loadRxWd s).rxWd := by
  rw [rxDispatch_of_empty (s := inHeader s [] rest h 0) htag hlen, afterFrame, ← hstate]
  rfl

/-- The header of a frame with a payload that fits goes on to the payload. -/
theorem rxDispatch_inHeader_of_payload (agenda : List AgendaItem) (htag : Tag.ofByte h.h0 = some t)
    (hlen : p.length = fcPaylen s.cfg.tag2Kind t h.params) (hpos : 0 < p.length)
    (hmax : p.length ≤ s.cfg.maxPayload) :
    ∃ wd, rxDispatch (inHeader s agenda (p ++ rest) h 0) = beforePayload s agenda h p rest wd := by
  have hdispatch :=
    rxDispatch_of_payload (s := inHeader s agenda (p ++ rest) h 0) htag (hlen ▸ hpos) (hlen ▸ hmax)
  rw [loadRxWd_eq] at hdispatch
  simp only [beforePayload, hlen]
  exact ⟨_, hdispatch⟩

theorem rxPulls_beforePayload (agenda : List AgendaItem) (wd : U32) (herr : s.errInb = false)
    (hlen : p.length < 2 ^ 32) (hmax : p.length ≤ s.cfg.maxPayload) :
    RxPulls (beforePayload s agenda h p rest wd) [] p where
  state := rfl
  healthy := herr
  got := rfl
  len := (Nat.mod_eq_of_lt hlen).trans (Nat.zero_add _).symm
  fits := (Nat.mod_eq_of_lt hlen).trans_le hmax
  stored := rfl

/-- As many turns of RX as a whole frame has bytes take the frame (R91, R230, R245). -/
theorem run_frame (hstate : s.rxState = .hdr) (hcnt : s.rxCnt = 0) (herr : s.errInb = false)
    (htag : Tag.ofByte h.h0 = some t) (hlen : p.length = fcPaylen s.cfg.tag2Kind t h.params)
    (hmax : p.length ≤ s.cfg.maxPayload) (hinb : s.inb = h.bytes ++ (p ++ rest)) :
    ∃ buf wd, Host.Core.run core (p.length + 5) { s with agenda := rxTurns (p.length + 5) } =
      .next (afterFrame s h p rest buf wd) := by
  have hheader := run_header p.length hstate hcnt herr hinb
  cases p with
  | nil =>
    exact ⟨s.rxbuf, (loadRxWd s).rxWd,
      hheader.trans (congrArg _ (rxDispatch_inHeader_of_empty hstate htag hlen.symm))⟩
  | cons b left =>
    obtain ⟨wd, hdispatch⟩ :=
      rxDispatch_inHeader_of_payload (rest := rest) (rxTurns (left.length + 1)) htag hlen (Nat.succ_pos _) hmax
    have hpulls := rxPulls_beforePayload (h := h) (rest := rest) (rxTurns (left.length + 1)) wd herr
      (hlen ▸ fcPaylen_lt _ _ _) hmax
    obtain ⟨buf, wd', hpayload⟩ := run_payload left _ [] b rest hpulls rfl
    rw [List.nil_append, afterPayload_beforePayload] at hpayload
    exact ⟨buf, wd', (hheader.trans (congrArg _ hdispatch)).trans hpayload⟩

end Frame

/-- Settles O47: the run over header and payload ends in `afterFrame`, whose fields are those stated. -/
theorem wholeFrameIsDelivered : Obligations.WholeFrameIsDelivered := by
  intro s h t p rest hstate hcnt herr htag hlen hmax hinb
  rw [List.append_assoc] at hinb
  obtain ⟨buf, wd, hrun⟩ := run_frame hstate hcnt herr htag hlen hmax hinb
  have htoNat : (BitVec.ofNat 32 p.length).toNat = p.length := Nat.mod_eq_of_lt (hlen ▸ fcPaylen_lt _ _ _)
  refine ⟨afterFrame s h p rest buf wd, ?run, rfl, rfl, rfl, rfl, rfl, htoNat, htoNat, rfl, ?delivered, rfl, rfl, rfl,
    ?tx, ?al, rfl⟩
  case run => simpa only [Nat.add_comm] using hrun
  case delivered => simp [afterFrame, deliveryOf, htag]
  case tx => simp [TxRegsEq, afterFrame]
  case al => simp [AlRegsEq, afterFrame]

end Sys2Proof.Machine

/-! PROOFS. The Frame Codec (spec/40_frame_codec.md R110 to R119): encoding and decoding are one relation read both
ways, the parameter views are big-endian numbers, and the payload length and the kind follow the tag. -/

namespace Sys2Proof

/-! ### Operands as numbers (R12) -/

/-- A byte appended to a word is its least significant one. -/
theorem toNat_append_byte {n : Nat} (x : BitVec n) (b : Byte) : (x ++ b).toNat = x.toNat * 2 ^ 8 + b.toNat := by
  rw [BitVec.toNat_append, ← Nat.shiftLeft_add_eq_or_of_lt b.isLt, Nat.shiftLeft_eq]

theorem be16_toNat (a b : Byte) : (be16 a b).toNat = a.toNat * 256 + b.toNat := toNat_append_byte a b

theorem be32_toNat (a b c d : Byte) :
    (be32 a b c d).toNat = a.toNat * 2 ^ 24 + b.toNat * 2 ^ 16 + c.toNat * 2 ^ 8 + d.toNat := by
  simp only [be32, toNat_append_byte]
  omega

/-! ### The parameter views (R114, R115) -/

theorem fcCount_toNat (p : Params) :
    (fcCount p).toNat = p.p0.toNat * 2 ^ 24 + p.p1.toNat * 2 ^ 16 + p.p2.toNat * 2 ^ 8 + p.p3.toNat :=
  be32_toNat ..

theorem fcDims_height_toNat (p : Params) : (fcDims p).1.toNat = p.p0.toNat * 256 + p.p1.toNat := be16_toNat ..

theorem fcDims_width_toNat (p : Params) : (fcDims p).2.toNat = p.p2.toNat * 256 + p.p3.toNat := be16_toNat ..

end Sys2Proof

namespace Sys2Proof.Machine

/-! ### FC.ENCODE and FC.DECODE (R111 to R113) -/

theorem isTag_iff (b : Byte) : isTag b = true ↔ Tag.ofByte b ≠ none := Option.isSome_iff_ne_none

theorem fcEncode_eq_some_iff (tag : Byte) (params : Params) (h : Header) :
    fcEncode tag params = some h ↔ Tag.ofByte tag ≠ none ∧ headerOf tag params = h := by
  by_cases htag : Tag.ofByte tag = none
  · simp [fcEncode_of_no_tag params htag, htag]
  · simp [fcEncode_of_tag params htag, htag]

theorem fcEncode_eq_none_iff (tag : Byte) (params : Params) : fcEncode tag params = none ↔ Tag.ofByte tag = none := by
  by_cases htag : Tag.ofByte tag = none
  · simp [fcEncode_of_no_tag params htag, htag]
  · simp [fcEncode_of_tag params htag, htag]

/-- Decoding is encoding read backwards: a header decodes to the one frame value that encodes to it (R113). -/
theorem fcDecode_eq_some_iff (h : Header) (tag : Byte) (params : Params) :
    fcDecode h = some (tag, params) ↔ fcEncode tag params = some h := by
  rw [fcEncode_eq_some_iff]
  constructor
  case mp =>
    intro hdec
    obtain ⟨htag, rfl, rfl⟩ : isTag h.h0 = true ∧ h.h0 = tag ∧ h.params = params := by
      simpa [fcDecode] using hdec
    exact ⟨(isTag_iff h.h0).mp htag, headerOf_self h⟩
  case mpr =>
    rintro ⟨htag, rfl⟩
    simp [fcDecode, isTag_iff, htag]

theorem fcDecode_eq_none_iff (h : Header) : fcDecode h = none ↔ Tag.ofByte h.h0 = none := by
  by_cases htag : Tag.ofByte h.h0 = none <;> simp [fcDecode, isTag_iff, htag]

/-- Settles O8: both failures are those of `Tag.ofByte`; on a recognised tag encoding answers `headerOf`, and decoding
is encoding read backwards. -/
theorem frameCodecIsABijection : Obligations.FrameCodecIsABijection := by
  rintro tags rfl
  have htag {b : Byte} (hb : b ∈ ([0x00, 0x01, 0x02, 0x03, 0x04, 0xFF] : List Byte)) : Tag.ofByte b ≠ none :=
    fun hnone => (Tag.ofByte_eq_none_iff b).mp hnone hb
  refine ⟨?decodeEncode, ?encodeDecode, ?encodeFails, ?decodeFails⟩
  case decodeEncode =>
    intro t p ht
    have henc := fcEncode_of_tag p (htag ht)
    exact ⟨headerOf t p, henc, (fcDecode_eq_some_iff _ t p).mpr henc⟩
  case encodeDecode =>
    intro h hh
    have henc : fcEncode h.h0 h.params = some h := fcEncode_of_tag h.params (htag hh)
    exact ⟨h.h0, h.params, (fcDecode_eq_some_iff h _ _).mpr henc, henc⟩
  case encodeFails => exact fun t p => (fcEncode_eq_none_iff t p).trans (Tag.ofByte_eq_none_iff t)
  case decodeFails => exact fun h => (fcDecode_eq_none_iff h).trans (Tag.ofByte_eq_none_iff h.h0)

/-! ### The operations that read parameters (R114 to R117) -/

theorem exec_fcCount (p : Params) (s : State) :
    exec (.fcCount p) s = .next { s with result := .count (fcCount p).toNat } := rfl

theorem exec_fcDims (p : Params) (s : State) :
    exec (.fcDims p) s = .next { s with result := .dims (fcDims p).1 (fcDims p).2 } := rfl

theorem exec_fcPaylen (t : Tag) (p : Params) (s : State) :
    exec (.fcPaylen t p) s = .next { s with result := .count (fcPaylen s.cfg.tag2Kind t p) } := rfl

theorem exec_fcKind (t : Tag) (s : State) :
    exec (.fcKind t) s = .next { s with result := .kind (fcKind s.cfg.tag2Kind t) } := rfl

/-- Settles O10: the operations answer the views, whose numbers are those of their bytes. -/
theorem parameterViewsAreBigEndian : Obligations.ParameterViewsAreBigEndian := by
  refine ⟨?count, ?dims, fcCount_paramsC, paramsC_fcCount, fcDims_paramsD, paramsD_fcDims⟩
  case count =>
    intro p s
    rw [exec_fcCount, fcCount_toNat]
  case dims => exact fun p s => ⟨_, _, exec_fcDims p s, fcDims_height_toNat p, fcDims_width_toNat p⟩

/-! ### The payload length and the kind (R116, R117) -/

/-- Tag 0x02 announces an image or a count, as the configuration says (R85). -/
theorem fcPaylen_tag2 (k : Tag2Kind) (p : Params) :
    fcPaylen k .tag2 p =
      if k = .image8Bit then (fcDims p).1.toNat * (fcDims p).2.toNat else (fcCount p).toNat := by
  cases k <;> rfl

/-- Two levels to a byte, the last byte perhaps half used: the ceiling of R116. -/
theorem fcPaylen_image3Bit (k : Tag2Kind) (p : Params) :
    fcPaylen k .image3Bit p = ((fcDims p).1.toNat * (fcDims p).2.toNat + 1) / 2 := rfl

theorem fcKind_tag2 (k : Tag2Kind) :
    fcKind k .tag2 = if k = .image8Bit then .image8Bit else .rawBytesWithWake := by
  cases k <;> rfl

/-- Settles O11: `n`, `h` and `w` are the numbers of the parameter views; tag 0x02 follows the configuration, and every
other tag has one equation of `fcPaylen` and one of `fcKind`. -/
theorem payloadLengthAndKindFollowTheTag : Obligations.PayloadLengthAndKindFollowTheTag := by
  intro s p
  refine ⟨(fcCount p).toNat, (fcDims p).1.toNat, (fcDims p).2.toNat, fcCount_toNat p, fcDims_height_toNat p,
    fcDims_width_toNat p, exec_fcPaylen .rawBytes p s, exec_fcPaylen .stringData p s, ?lenTag2, ?lenImage3Bit,
    exec_fcPaylen .ack p s, exec_fcPaylen .nak p s, fun t => fcPaylen_lt _ t p, exec_fcKind .rawBytes s, ?kindTag2,
    exec_fcKind .stringData s, exec_fcKind .image3Bit s, exec_fcKind .ack s, exec_fcKind .nak s⟩
  case lenTag2 => rw [exec_fcPaylen, fcPaylen_tag2]
  case lenImage3Bit => rw [exec_fcPaylen, fcPaylen_image3Bit]
  case kindTag2 => rw [exec_fcKind, fcKind_tag2]

end Sys2Proof.Machine

/-! PROOFS. The Image Codec (spec/41_image_codec.md R132 to R141): a level and its lane of a packed byte as numbers, then
what each byte of IC.PACK3 and each pixel of IC.UNPACK3 is; both round trips are read off these, pixel by pixel and byte
by byte. -/

namespace Sys2Proof.Machine

/-! ### Levels (R132, R133) -/

theorem icQuant_toNat (g : Byte) : (icQuant g).toNat = (7 * g.toNat + 127) / 255 := by
  rw [icQuant, BitVec.toNat_ofNat, Nat.mod_eq_of_lt (by omega)]

theorem icDequant_lutTruncating_toNat : ∀ l : Level, (icDequant lutTruncating l).toNat = l.toNat * 255 / 7 := by decide

theorem icDequant_lutNearest_toNat : ∀ l : Level, (icDequant lutNearest l).toNat = (2 * (l.toNat * 255) + 7) / 14 := by
  decide

/-- Either sanctioned table rescales a level to a sample of that level. -/
theorem icQuant_icDequant (c : Config) (l : Level) : icQuant (icDequant c.unpackLut l) = l := by
  apply BitVec.eq_of_toNat_eq
  obtain hlut | hlut := c.unpackLut_ok
  · rw [icQuant_toNat, hlut, icDequant_lutTruncating_toNat]
    omega
  · rw [icQuant_toNat, hlut, icDequant_lutNearest_toNat]
    omega

theorem exec_icQuant (g : Byte) (s : State) :
    exec (.icQuant g) s = .next { s with result := .level (icQuant g) } := rfl

theorem exec_icDequant (l : Level) (s : State) :
    exec (.icDequant l) s = .next { s with result := .byte (icDequant s.cfg.unpackLut l) } := rfl

/-- Settles O12: quantising and rescaling are the quotients of R132 and R133, and the bounds of R140 are arithmetic about
these quotients. -/
theorem quantiseRescaleAndTheirError : Obligations.QuantiseRescaleAndTheirError := by
  refine ⟨fun g s => ⟨_, exec_icQuant g s, icQuant_toNat g, ?halfUp⟩, fun l s => ⟨_, exec_icDequant l s, ?trunc, ?near⟩,
    fun g => ?error⟩
  case halfUp =>
    rw [icQuant_toNat]
    omega
  case trunc => exact fun hlut => hlut ▸ icDequant_lutTruncating_toNat l
  case near => exact fun hlut => hlut ▸ icDequant_lutNearest_toNat l
  case error =>
    have h91 : g = 91 ↔ g.toNat = 91 := BitVec.toNat_inj.symm
    rw [icDequant_lutTruncating_toNat, icDequant_lutNearest_toNat, icQuant_toNat, h91]
    omega

/-! ### The lanes of a packed byte (R134, R137) -/

/-- In a concatenation the left word is the more significant one. -/
theorem toNat_append {n m : Nat} (x : BitVec n) (y : BitVec m) : (x ++ y).toNat = x.toNat * 2 ^ m + y.toNat := by
  rw [BitVec.toNat_append, ← Nat.shiftLeft_add_eq_or_of_lt y.isLt, Nat.shiftLeft_eq]

theorem packByte_toNat (a b : Level) : (packByte a b).toNat = a.toNat * 32 + b.toNat * 2 := by
  simp only [packByte, toNat_append, BitVec.toNat_ofNat]
  omega

theorem laneLevel_even_toNat (v : Byte) {i : Nat} (hi : i % 2 = 0) : (laneLevel v i).toNat = v.toNat / 32 := by
  rw [laneLevel, if_pos hi, BitVec.extractLsb'_toNat, Nat.shiftRight_eq_div_pow]
  omega

theorem laneLevel_odd_toNat (v : Byte) {i : Nat} (hi : i % 2 = 1) : (laneLevel v i).toNat = v.toNat % 16 / 2 := by
  rw [laneLevel, if_neg (by omega), BitVec.extractLsb'_toNat, Nat.shiftRight_eq_div_pow]
  omega

theorem laneLevel_packByte_even (a b : Level) {i : Nat} (hi : i % 2 = 0) : laneLevel (packByte a b) i = a := by
  apply BitVec.eq_of_toNat_eq
  rw [laneLevel_even_toNat _ hi, packByte_toNat]
  omega

theorem laneLevel_packByte_odd (a b : Level) {i : Nat} (hi : i % 2 = 1) : laneLevel (packByte a b) i = b := by
  apply BitVec.eq_of_toNat_eq
  rw [laneLevel_odd_toNat _ hi, packByte_toNat]
  omega

/-- Of the byte that packs pixels 2·(i div 2) and the next one, lane `i` holds the level of pixel `i`. -/
theorem laneLevel_packByte_pair (level : Nat → Level) (i : Nat) :
    laneLevel (packByte (level (2 * (i / 2))) (level (2 * (i / 2) + 1))) i = level i := by
  obtain hi | hi := Nat.mod_two_eq_zero_or_one i
  · rw [laneLevel_packByte_even _ _ hi]
    congr 1
    omega
  · rw [laneLevel_packByte_odd _ _ hi]
    congr 1
    omega

/-- The mask of R141(a) keeps the two lanes (all 256 bytes). -/
theorem and_0xEE_toNat : ∀ v : Byte, (v &&& 0xEE).toNat = v.toNat / 32 * 32 + v.toNat % 16 / 2 * 2 := by decide

/-- The mask of a half used byte keeps the high lane (all 256 bytes). -/
theorem and_0xE0_toNat : ∀ v : Byte, (v &&& 0xE0).toNat = v.toNat / 32 * 32 := by decide

theorem packByte_laneLevel_laneLevel (v : Byte) (j : Nat) :
    packByte (laneLevel v (2 * j)) (laneLevel v (2 * j + 1)) = v &&& 0xEE := by
  apply BitVec.eq_of_toNat_eq
  rw [packByte_toNat, laneLevel_even_toNat _ (by omega), laneLevel_odd_toNat _ (by omega), and_0xEE_toNat]

theorem packByte_laneLevel_zero (v : Byte) (j : Nat) : packByte (laneLevel v (2 * j)) 0 = v &&& 0xE0 := by
  apply BitVec.eq_of_toNat_eq
  rw [packByte_toNat, laneLevel_even_toNat _ (by omega), and_0xE0_toNat]
  rfl

/-! ### Bytes and pixels of the sequence forms (R136, R137) -/

theorem pixelLevel_of_getElem? {m : List Byte} {i : Nat} {g : Byte} (hg : m[i]? = some g) :
    pixelLevel m i = icQuant g := by
  rw [pixelLevel, hg]

theorem pixelLevel_of_missing {m : List Byte} {i : Nat} (hi : m.length ≤ i) : pixelLevel m i = 0 := by
  rw [pixelLevel, List.getElem?_eq_none hi]

theorem bitmapByte_of_getElem? {b : List Byte} {j : Nat} {v : Byte} (hv : b[j]? = some v) : bitmapByte b j = v := by
  rw [bitmapByte, hv]

theorem icPack3Seq_getElem? (m : List Byte) {j : Nat} (hj : 2 * j < m.length) :
    (icPack3Seq m)[j]? = some (packByte (pixelLevel m (2 * j)) (pixelLevel m (2 * j + 1))) := by
  have hlt : j < ceilDiv m.length 2 := by
    unfold ceilDiv
    omega
  simp [icPack3Seq, hlt]

theorem icUnpack3Seq_getElem? (lut : Vector Byte 8) {b : List Byte} {width height : U16} {i : Nat} {v : Byte}
    (hi : i < height.toNat * width.toNat) (hv : b[i / 2]? = some v) :
    (icUnpack3Seq lut b width height)[i]? = some (icDequant lut (laneLevel v i)) := by
  simp [icUnpack3Seq, hi, bitmapByte_of_getElem? hv]

theorem exec_icPack3Seq (m : List Byte) (s : State) :
    exec (.icPack3Seq m) s = .next { s with result := .bytes (icPack3Seq m) } := rfl

theorem exec_icUnpack3Seq (b : List Byte) (width height : U16) (s : State) :
    exec (.icUnpack3Seq b width height) s =
      .next { s with result := .bytes (icUnpack3Seq s.cfg.unpackLut b width height) } := rfl

/-- Settles O13: byte `j` packs the levels of its two pixels, the second of which an odd list may lack. -/
theorem packPutsTwoLevelsInAByte : Obligations.PackPutsTwoLevelsInAByte := by
  intro m s
  refine ⟨_, exec_icPack3Seq m s, icPack3Seq_length m, fun j hj => ?_⟩
  have hfirst : 2 * j < m.length := by
    rw [icPack3Seq_length, ceilDiv] at hj
    omega
  refine ⟨m[2 * j], List.getElem?_eq_getElem hfirst, ?_⟩
  rw [icPack3Seq_getElem? m hfirst, Option.map_some, packByte_toNat,
    pixelLevel_of_getElem? (List.getElem?_eq_getElem hfirst)]
  cases hsecond : m[2 * j + 1]? with
  | some g' => rw [pixelLevel_of_getElem? hsecond]
  | none =>
    rw [pixelLevel_of_missing (List.getElem?_eq_none_iff.mp hsecond)]
    rfl

/-- The lane of R137 as a number of its byte. -/
theorem laneLevel_eq_ofNat (v : Byte) (i : Nat) :
    laneLevel v i = BitVec.ofNat 3 (if i % 2 = 0 then v.toNat / 32 else v.toNat % 16 / 2) := by
  split
  next hi => rw [← laneLevel_even_toNat v hi, BitVec.ofNat_toNat, BitVec.setWidth_eq]
  next hi => rw [← laneLevel_odd_toNat v (Nat.mod_two_ne_zero.mp hi), BitVec.ofNat_toNat, BitVec.setWidth_eq]

/-- Settles O14: pixel `i` is the rescaled level of its lane. -/
theorem unpackRescalesEachLane : Obligations.UnpackRescalesEachLane := by
  intro b width height s
  refine ⟨_, exec_icUnpack3Seq b width height s, icUnpack3Seq_length .., fun i v hi hv => ?_⟩
  rw [icUnpack3Seq_length] at hi
  rw [icUnpack3Seq_getElem? _ hi hv, laneLevel_eq_ofNat]

/-! ### The round trips (R141) -/

/-- Settles O15: lane `i` of its packed byte holds the level of pixel `i` and of no other. -/
theorem unpackOfPackIsPixelwise : Obligations.UnpackOfPackIsPixelwise := by
  intro c m width height hlen
  refine List.ext_getElem (by simp [hlen]) fun i hi hi' => ?_
  rw [icUnpack3Seq_length, ← hlen] at hi
  have hbyte := icPack3Seq_getElem? m (j := i / 2) (by omega)
  have hpixel : pixelLevel m i = icQuant m[i] := pixelLevel_of_getElem? (List.getElem?_eq_getElem hi)
  apply Option.some.inj
  rw [← List.getElem?_eq_getElem, icUnpack3Seq_getElem? _ (hlen ▸ hi) hbyte, laneLevel_packByte_pair, hpixel,
    List.getElem_map]

/-- Quantising an unpacked pixel gives back the level of its lane. -/
theorem pixelLevel_icUnpack3Seq (c : Config) {b : List Byte} {width height : U16} {i : Nat} {v : Byte}
    (hi : i < height.toNat * width.toNat) (hv : b[i / 2]? = some v) :
    pixelLevel (icUnpack3Seq c.unpackLut b width height) i = laneLevel v i := by
  rw [pixelLevel_of_getElem? (icUnpack3Seq_getElem? _ hi hv), icQuant_icDequant]

/-- Byte `j` of the packed, unpacked bitmap: both lanes of the byte, or the one lane the image uses. -/
theorem packByte_of_unpacked (c : Config) {b : List Byte} {width height : U16} {j : Nat} {v : Byte}
    (hj : 2 * j < height.toNat * width.toNat) (hv : b[j]? = some v) :
    packByte (pixelLevel (icUnpack3Seq c.unpackLut b width height) (2 * j))
        (pixelLevel (icUnpack3Seq c.unpackLut b width height) (2 * j + 1)) =
      v &&& (if 2 * j + 1 < height.toNat * width.toNat then 0xEE else 0xE0) := by
  have hhigh : b[2 * j / 2]? = some v := by rwa [Nat.mul_div_cancel_left j Nat.two_pos]
  have hlow : b[(2 * j + 1) / 2]? = some v := by rwa [show (2 * j + 1) / 2 = j by omega]
  rw [pixelLevel_icUnpack3Seq c hj hhigh]
  split
  next hlast => rw [pixelLevel_icUnpack3Seq c hlast hlow, packByte_laneLevel_laneLevel]
  next hlast => rw [pixelLevel_of_missing (by simpa using hlast), packByte_laneLevel_zero]

/-- Settles O16: the levels of the unpacked pixels are the lanes of the bitmap, and packing puts them back. -/
theorem packOfUnpackClearsUnusedBits : Obligations.PackOfUnpackClearsUnusedBits := by
  intro c b width height hlen
  refine List.ext_getElem (by simp [hlen]) fun j hj hj' => ?_
  have hjb : j < b.length := by simpa using hj'
  have hpixel : 2 * j < height.toNat * width.toNat := by
    rw [hlen, ceilDiv] at hjb
    omega
  apply Option.some.inj
  rw [← List.getElem?_eq_getElem, icPack3Seq_getElem? _ (by rwa [icUnpack3Seq_length]),
    packByte_of_unpacked c hpixel (List.getElem?_eq_getElem hjb)]
  simp [hjb]

end Sys2Proof.Machine

/-! PROOFS. The AckQueue and the listener (spec/42_ack_listener.md R160 to R183): the queue by its operations, the five bytes
of a header one turn at a time, and the tables of AL and RX (R183, R255) from what each unit and each command can answer. -/

namespace Sys2Proof.Machine

/-! ### The queue (R161 to R165) -/

/-- AQ.ENQ appends, and a finite queue keeps what fits (R162). -/
theorem aqEnq_aq {s : State} (hs : QueueInv s) (v : Entry) :
    (aqEnq v s).aq =
      match s.cfg.ackqDepth with
      | none => s.aq ++ [v]
      | some d => (s.aq ++ [v]).take d := by
  rcases aqEnq_cases v s with ⟨hroom, h⟩ | ⟨hfull, h⟩ <;> rw [h]
  · cases hd : s.cfg.ackqDepth with
    | none => rfl
    | some d =>
      have hlt : s.aq.length < d := (aqHasRoom_iff s).mp hroom d hd
      exact (List.take_of_length_le (by simpa using hlt)).symm
  · cases hd : s.cfg.ackqDepth with
    | none => simp [aqHasRoom, hd] at hfull
    | some d =>
      have hle : s.aq.length ≤ d := hs d hd
      have hge : d ≤ s.aq.length := by simpa [aqHasRoom, hd] using hfull
      exact (List.take_left' (Nat.le_antisymm hle hge)).symm

/-- Cutting to `d` elements before more are appended changes nothing of the first `d`. -/
theorem take_append_take {α : Type} (l m : List α) (d : Nat) : (l.take d ++ m).take d = (l ++ m).take d := by
  simp only [List.take_append, List.take_take, List.length_take, Nat.min_self]
  congr 2
  omega

theorem foldl_aqEnq_aq (vs : List Entry) (s : State) (hs : QueueInv s) :
    (vs.foldl (fun t v => aqEnq v t) s).aq =
      match s.cfg.ackqDepth with
      | none => s.aq ++ vs
      | some d => (s.aq ++ vs).take d := by
  induction vs generalizing s with
  | nil =>
    cases hd : s.cfg.ackqDepth with
    | none => simp
    | some d => simpa using (List.take_of_length_le (hs d hd)).symm
  | cons v vs ih =>
    rw [List.foldl_cons, ih _ (hs.aqEnq v), aqEnq_aq hs, aqEnq_cfg]
    cases s.cfg.ackqDepth with
    | none => simp
    | some d => simp [take_append_take]

/-- `n` times AQ.DEQ's effect leaves what is behind the first `n` entries (R164). -/
theorem aqDrop_iterate (n : Nat) (s : State) : aqDrop^[n] s = { s with aq := s.aq.drop n } := by
  induction n with
  | zero => rfl
  | succ n ih => rw [Function.iterate_succ_apply', ih, aqDrop, List.tail_drop]

theorem exec_aqDeq_of_cons {s : State} {v : Entry} {rest : List Entry} (h : s.aq = v :: rest) :
    exec .aqDeq s = .next (setResult (.entry v) (aqDrop s)) := by
  simp only [exec, execAqDeq, h]

/-- Settles O20: by induction on the entries enqueued, and on the number of entries taken. -/
theorem queueKeepsTheOrderOfEntries : Obligations.QueueKeepsTheOrderOfEntries := by
  refine ⟨foldl_aqEnq_aq, fun s n v hv => ⟨?_, by rw [aqDrop_iterate]⟩⟩
  obtain ⟨hn, rfl⟩ := List.getElem?_eq_some_iff.mp hv
  have hcons : (aqDrop^[n] s).aq = s.aq[n] :: s.aq.drop (n + 1) := by
    rw [aqDrop_iterate]
    exact List.drop_eq_getElem_cons hn
  rw [exec_aqDeq_of_cons hcons, Function.iterate_succ_apply']

/-- Settles O19: AQ.ENQ by whether there is room, AQ.DEQ by the head. -/
theorem queueOperationsActOnTheQueue : Obligations.QueueOperationsActOnTheQueue := by
  refine ⟨?room, ?full, ?dequeue, fun _ => rfl⟩
  case room =>
    intro v s h
    show Host.Outcome.next (setResult .unit (aqEnq v s)) = _
    rw [aqEnq_of_room v s ((aqHasRoom_iff s).mpr h)]
    rfl
  case full =>
    intro v s d hd hlen
    show Host.Outcome.next (setResult .unit (aqEnq v s)) = _
    rw [aqEnq_of_full v s (by simp [aqHasRoom, hd, hlen])]
    rfl
  case dequeue =>
    intro s v rest haq
    rw [exec_aqDeq_of_cons haq]
    simp only [setResult, aqDrop, haq, List.tail_cons]

/-! ### The listener's single bytes (R170, R178, R181) -/

/-- One of the first four bytes of a header (R170). -/
theorem setHeaderByte_of_lt (h : Header) {i : BitVec 3} (b : Byte) (hi : i.toNat < 4) :
    setHeaderByte h i b =
      ⟨if i = 0 then b else h.h0, if i = 1 then b else h.h1, if i = 2 then b else h.h2, if i = 3 then b else h.h3,
        h.h4⟩ := by
  have hcases : i = 0 ∨ i = 1 ∨ i = 2 ∨ i = 3 := by bv_omega
  rcases hcases with rfl | rfl | rfl | rfl <;> rfl

theorem exec_alHdrByte_of_cons {s : State} {b : Byte} {rest : List Byte} (hon : onAlHdrByte s = true)
    (hret : s.ret = b :: rest) :
    exec .alHdrByte s =
      .next { s with ret := rest, alHdr := setHeaderByte s.alHdr s.alCnt b, alCnt := s.alCnt + 1 } := by
  simp only [exec, execAlHdrByte, hon, hret, if_true]

theorem exec_alDiagByte_of_cons {s : State} {b : Byte} {rest : List Byte} (hon : onAlDiagByte s = true)
    (hret : s.ret = b :: rest) :
    exec .alDiagByte s =
      .next { s with
        ret := rest, diag := s.diag ++ [(b, b == s.cfg.diagEol)]
        alState := if b = s.cfg.diagEol then .hdr else s.alState } := by
  simp only [exec, execAlDiagByte, hon, hret, if_true]

/-- Settles O39: each step under its guard; the delimiter is forwarded as the last byte of its line. -/
theorem listenerBytesAndLinkError : Obligations.ListenerBytesAndLinkError := by
  refine ⟨?header, ?line, ?delimiter, ?linkError⟩
  case header =>
    intro s b rest hstate hcnt herr hret
    have hon := (onAlHdrByte_iff s).mpr ⟨hstate, hcnt, by simp [hret], herr⟩
    rw [exec_alHdrByte_of_cons hon hret, setHeaderByte_of_lt _ b hcnt]
  case line =>
    intro s b rest hstate herr hret hb
    have hon := (onAlDiagByte_iff s).mpr ⟨hstate, by simp [hret], herr⟩
    rw [exec_alDiagByte_of_cons hon hret, if_neg hb, beq_eq_false_iff_ne.mpr hb]
  case delimiter =>
    intro s b rest hstate herr hret hb
    have hon := (onAlDiagByte_iff s).mpr ⟨hstate, by simp [hret], herr⟩
    rw [exec_alDiagByte_of_cons hon hret, if_pos hb, beq_iff_eq.mpr hb]
  case linkError =>
    intro s hstate herr
    exact if_pos ((onAlLinkErr_iff s).mpr ⟨hstate, herr⟩)

/-! ### The completed header (R171 to R177) -/

/-- What AL does with a completed header, by its tag (R172 to R176). -/
def alActs (s : State) : State :=
  match Tag.ofByte s.alHdr.h0 with
  | some .ack => aqEnq (.val (fcCount s.alHdr.params)) s
  | some .nak => aqEnq .nak s
  | some .stringData => { s with alState := .diag }
  | _ => alLogHeader s

theorem alActs_of_ack {s : State} (h : s.alHdr.h0 = 0xFF) :
    alActs s = aqEnq (.val (fcCount s.alHdr.params)) s := by
  simp [alActs, h, Tag.ofByte]

theorem alActs_of_nak {s : State} (h : s.alHdr.h0 = 0x00) : alActs s = aqEnq .nak s := by
  simp [alActs, h, Tag.ofByte]

theorem alActs_of_stringData {s : State} (h : s.alHdr.h0 = 0x03) : alActs s = { s with alState := .diag } := by
  simp [alActs, h, Tag.ofByte]

theorem alActs_of_other {s : State} (hack : s.alHdr.h0 ≠ 0xFF) (hnak : s.alHdr.h0 ≠ 0x00)
    (hstr : s.alHdr.h0 ≠ 0x03) : alActs s = alLogHeader s := by
  unfold alActs
  split
  next htag => exact absurd ((Tag.ofByte_eq_some_iff _ _).mp htag) hack
  next htag => exact absurd ((Tag.ofByte_eq_some_iff _ _).mp htag) hnak
  next htag => exact absurd ((Tag.ofByte_eq_some_iff _ _).mp htag) hstr
  next => rfl

@[simp] theorem alPopFifth_h0 (s : State) : (alPopFifth s).alHdr.h0 = s.alHdr.h0 := by
  unfold alPopFifth
  split <;> rfl

theorem unitOf_alStepOf (s : State) : unitOf (alStepOf s) = some .al := by
  unfold alStepOf
  repeat' split
  all_goals rfl

/-- At the fifth byte the step of the header's tag is enabled, and pops the byte and acts on the header at once (R171,
R177). -/
theorem alStepOf_at_fifth {s : State} (h : alAtFifth s = true) :
    enabled (alStepOf s) s = true ∧ exec (alStepOf s) s = .next (alActs (alPopFifth s)) := by
  obtain ⟨hstate, hcnt, -, herr⟩ := (alAtFifth_iff s).mp h
  simp only [alStepOf, alActs, alPopFifth_h0, herr, hstate, hcnt, if_true, Bool.false_eq_true, if_false]
  cases htag : Tag.ofByte s.alHdr.h0 with
  | none => simp [enabled, exec, onAlFrameDropUnknown, execAlFrameDropUnknown, h, htag]
  | some tag =>
    cases tag with
    | ack => simp [enabled, exec, onAlFrameAck, execAlFrameAck, h, htag]
    | nak => simp [enabled, exec, onAlFrameNak, execAlFrameNak, h, htag]
    | stringData => simp [enabled, exec, onAlFrameStr, execAlFrameStr, h, htag]
    | rawBytes | tag2 | image3Bit =>
      simp [enabled, exec, onAlFrameDropPayloadKind, execAlFrameDropPayloadKind, h, htag]

/-- Settles O40: the tag's step is the one AL has at the fifth byte, and acts as the tag says. -/
theorem completedHeaderIsActedOn : Obligations.CompletedHeaderIsActedOn := by
  intro s b rest hstate hcnt herr hret
  have hfifth := (alAtFifth_iff s).mpr ⟨hstate, hcnt, by simp [hret], herr⟩
  have hpop := alPopFifth_of_cons s b rest hret
  have hexec {i : Instr} (hi : alStepOf s = i) : exec i s = .next (alActs (alPopFifth s)) :=
    hi ▸ (alStepOf_at_fifth hfifth).2
  have hlog (hack : s.alHdr.h0 ≠ 0xFF) (hnak : s.alHdr.h0 ≠ 0x00) (hstr : s.alHdr.h0 ≠ 0x03) :
      alActs (alPopFifth s) =
        { alPopFifth s with log := s.log ++ [⟨s.alHdr.h0, ⟨s.alHdr.h1, s.alHdr.h2, s.alHdr.h3, b⟩⟩] } := by
    rw [alActs_of_other (by simpa using hack) (by simpa using hnak) (by simpa using hstr), hpop]
    rfl
  refine ⟨alPopFifth s, hpop, fun h => ?ack, fun h => ?nak, fun h => ?stringData, fun h => ?payloadKind,
    fun h => ?unknown⟩
  case ack =>
    rw [hexec (by simp [alStepOf, herr, hstate, hcnt, h, Tag.ofByte]), alActs_of_ack (by simpa using h), hpop]
    rfl
  case nak => rw [hexec (by simp [alStepOf, herr, hstate, hcnt, h, Tag.ofByte]), alActs_of_nak (by simpa using h)]
  case stringData =>
    rw [hexec (by simp [alStepOf, herr, hstate, hcnt, h, Tag.ofByte]), alActs_of_stringData (by simpa using h)]
  case payloadKind =>
    have hstep : alStepOf s = .alFrameDropPayloadKind := by
      simp only [List.mem_cons, List.not_mem_nil, or_false] at h
      rcases h with h | h | h <;> simp [alStepOf, herr, hstate, hcnt, h, Tag.ofByte]
    rw [hexec hstep, hlog (ne_of_mem_of_not_mem h (by decide)) (ne_of_mem_of_not_mem h (by decide))
      (ne_of_mem_of_not_mem h (by decide))]
  case unknown =>
    have hstep : alStepOf s = .alFrameDropUnknown := by
      simp [alStepOf, herr, hstate, hcnt, (Tag.ofByte_eq_none_iff _).mpr h]
    rw [hexec hstep, hlog (ne_of_mem_of_not_mem (by decide) h).symm (ne_of_mem_of_not_mem (by decide) h).symm
      (ne_of_mem_of_not_mem (by decide) h).symm]

/-! ### A whole frame on the return link (R177) -/

/-- A turn of AL with an enabled step is that step (R99). -/
theorem alTurn_of_enabled {i : Instr} {s : State} (hi : unitOf i = some .al) (hon : enabled i s = true) :
    alTurn s = exec i s := by
  rw [alTurn_eq, select_of_enabled hi hon, runOrWait]

theorem turns_of_next {turn : State → StepOutcome} {s t : State} (n : Nat) (h : turn s = .next t) :
    turns (n + 1) turn s = turns n turn t := by
  rw [turns_succ, h, andThen_next]

/-- AL inside a header: `header` is collected up to byte `cnt`, and `bytes` are left on RET. -/
def alInHeader (s : State) (bytes : List Byte) (header : Header) (cnt : BitVec 3) : State :=
  { s with ret := bytes, alHdr := header, alCnt := cnt }

section InHeader

variable {s : State} {b : Byte} {bytes : List Byte} {header : Header} {cnt : BitVec 3}

/-- A turn that takes one of the first four bytes (R170). -/
theorem alTurn_collects (hstate : s.alState = .hdr) (herr : s.errRet = false) (hcnt : cnt.toNat < 4) :
    alTurn (alInHeader s (b :: bytes) header cnt) =
      .next (alInHeader s bytes (setHeaderByte header cnt b) (cnt + 1)) := by
  have hon : enabled .alHdrByte (alInHeader s (b :: bytes) header cnt) = true :=
    (onAlHdrByte_iff _).mpr ⟨hstate, hcnt, List.cons_ne_nil _ _, herr⟩
  exact (alTurn_of_enabled rfl hon).trans (exec_alHdrByte_of_cons hon rfl)

/-- The turn that takes the fifth byte and acts on the header (R171). -/
theorem alTurn_completes (hstate : s.alState = .hdr) (herr : s.errRet = false) :
    alTurn (alInHeader s (b :: bytes) header 4) = .next (alActs (alInHeader s bytes { header with h4 := b } 0)) := by
  have hfifth : alAtFifth (alInHeader s (b :: bytes) header 4) = true :=
    (alAtFifth_iff _).mpr ⟨hstate, rfl, List.cons_ne_nil _ _, herr⟩
  obtain ⟨hon, hexec⟩ := alStepOf_at_fifth hfifth
  exact (alTurn_of_enabled (unitOf_alStepOf _) hon).trans hexec

end InHeader

/-- A whole header on an empty, healthy return link is taken and acted on in five turns (R170 to R177). -/
theorem receiveFrame_ret {s : State} (h : Header) (hstate : s.alState = .hdr) (hcnt : s.alCnt = 0) (hret : s.ret = [])
    (herr : s.errRet = false) : receiveFrame .ret h s = .next (alActs { s with alHdr := h }) := by
  have harrives : { s with ret := s.ret ++ h.bytes } = alInHeader s h.bytes s.alHdr 0 := by
    rw [hret, ← hcnt]
    rfl
  have hleft : alInHeader s [] h 0 = { s with alHdr := h } := by
    rw [← hret, ← hcnt]
    rfl
  calc receiveFrame .ret h s
    _ = turns 5 alTurn (alInHeader s [h.h0, h.h1, h.h2, h.h3, h.h4] _ 0) := congrArg (turns 5 alTurn) harrives
    _ = turns 4 alTurn (alInHeader s [h.h1, h.h2, h.h3, h.h4] _ 1) :=
      turns_of_next 4 (alTurn_collects hstate herr (by decide))
    _ = turns 3 alTurn (alInHeader s [h.h2, h.h3, h.h4] _ 2) :=
      turns_of_next 3 (alTurn_collects hstate herr (by decide))
    _ = turns 2 alTurn (alInHeader s [h.h3, h.h4] _ 3) := turns_of_next 2 (alTurn_collects hstate herr (by decide))
    _ = turns 1 alTurn (alInHeader s [h.h4] _ 4) := turns_of_next 1 (alTurn_collects hstate herr (by decide))
    _ = .next (alActs (alInHeader s [] h 0)) := turns_of_next 0 (alTurn_completes hstate herr)
    _ = .next (alActs { s with alHdr := h }) := by rw [hleft]

/-- Settles O41: five turns take the header, and its tag says what AL does with it. -/
theorem frameOnTheReturnLink : Obligations.FrameOnTheReturnLink := by
  intro i h s hi hstate hcnt hret herr
  rw [exec_of_header hi, receiveFrame_ret h hstate hcnt hret herr]
  refine ⟨fun hack => ?_, fun hnak => ?_, fun hstr => ?_, fun hack hnak hstr => ?_⟩
  · rw [alActs_of_ack hack]
    rfl
  · rw [alActs_of_nak hnak]
  · rw [alActs_of_stringData hstr]
  · rw [alActs_of_other hack hnak hstr]
    rfl

/-! ### The tables of control transfer: which instruction a step runs -/

/-- Every decoded command is a host operation (R96, R97). -/
theorem command_of_decodeCommand {bs : List Byte} {i : Instr} (h : decodeCommand bs = .ok i) :
    ∃ cs, i.command = some cs := by
  obtain ⟨-, hdecoded, hempty, -⟩ := encodeGivesBackTheDecodedBytes
  cases bs with
  | nil => exact absurd h (hempty i)
  | cons c ops =>
    obtain ⟨-, -, hunlisted⟩ := hdecoded .image8Bit c ops i h
    by_cases hc : operandBytes c = none
    · obtain ⟨rfl, -⟩ := hunlisted ((operandBytes_eq_none_iff c).mp hc)
      exact ⟨[c], rfl⟩
    · have hlisted := mt (operandBytes_eq_none_iff c).mpr hc
      have hpos : c.toNat ≠ 0 := fun h0 => hlisted (.inl (BitVec.eq_of_toNat_eq h0))
      have hcode := mem_listed_codes (Nat.one_le_iff_ne_zero.mpr hpos) (by omega)
      obtain ⟨-, hcommand⟩ :=
        wf_and_command_of_decodeOperands .image8Bit hcode (decodeOperands_of_decodeCommand hc h)
      exact ⟨_, hcommand⟩

/-- What a step from `s` to `t` can be that is neither reset nor a whole frame: a unit's step or a command, run after the
choice has been taken off the agenda, or one of those that leave both states alone: a tick, the environment's own, and
waiting. -/
inductive StepKind (s t : State) : Prop
  | unit (u : UnitName) (i : Instr) (agenda : List AgendaItem) (hi : unitOf i = some u)
      (ht : exec i { s with agenda := agenda } = .next t)
  | command (i : Instr) (bs : List Byte) (agenda : List AgendaItem) (his : CommandIs i s) (hi : i.command = some bs)
      (ht : exec i { s with agenda := agenda } = .next t)
  | statesKept (hal : t.alState = s.alState) (hrx : t.rxState = s.rxState)

/-- A unit's selected step, or waiting. -/
theorem stepKind_of_runOrWait {s t : State} {o : Option Instr} {agenda : List AgendaItem}
    (ho : ∀ i, o = some i → ∃ u, unitOf i = some u) (h : runOrWait o { s with agenda := agenda } = .next t) :
    StepKind s t := by
  cases o with
  | none =>
    cases h
    exact .statesKept rfl rfl
  | some i =>
    obtain ⟨u, hu⟩ := ho i rfl
    exact .unit u i agenda hu h

theorem stepKind_of_step {s t : State} (h : step s = .next t) (hreset : t.epoch = s.epoch)
    (hframe : ∀ l h rest, s.agenda ≠ .frame l h :: rest) : StepKind s t := by
  cases ha : s.agenda with
  | nil =>
    rw [step_of_no_choice ha] at h
    refine stepKind_of_runOrWait (agenda := s.agenda) (fun i hi => ?_) h
    obtain ⟨u, hu, -⟩ := selectAny_enabled hi
    exact ⟨u, hu⟩
  | cons item rest =>
    cases item with
    | command bs =>
      cases hd : decode s.cfg.tag2Kind .command bs with
      | error e =>
        rw [step_of_bad_command ha hd] at h
        cases h
      | ok i =>
        rw [step_of_command ha hd] at h
        obtain ⟨cs, hi⟩ := command_of_decodeCommand hd
        exact .command i cs rest ⟨bs, rest, ha, hd⟩ hi h
    | frame l hdr => exact absurd ha (hframe l hdr rest)
    | turn u =>
      rw [step_of_turn ha] at h
      exact stepKind_of_runOrWait (fun i hi => ⟨u, (select_enabled hi).1⟩) h
    | tick =>
      rw [step_of_tick ha] at h
      cases h
      exact .statesKept rfl rfl
    | peerByte l b =>
      rw [step_of_peerByte ha] at h
      cases h
      cases l <;> exact .statesKept rfl rfl
    | linkOut =>
      rw [step_of_linkOut ha] at h
      cases h
      exact .statesKept rfl rfl
    | hostPop c =>
      rw [step_of_hostPop ha] at h
      cases h
      cases c <;> exact .statesKept rfl rfl
    | linkErr l =>
      rw [step_of_linkErr ha] at h
      cases h
      cases l <;> exact .statesKept rfl rfl
    | reset =>
      rw [step_of_reset ha] at h
      cases h
      exact absurd hreset (Nat.succ_ne_self s.epoch)

/-! ### Commands leave the listener alone, and the receiver but for RX.RESTART (R306) -/

theorem exec_txStart_frame {tag : Byte} {params : Params} {base : U32} {s t : State}
    (h : exec (.txStart tag params base) s = .next t) : AlRegsEq s t ∧ RxRegsEq s t := by
  change execTxStart tag params base s = .next t at h
  unfold execTxStart at h
  split at h
  next =>
    cases h
    simp [AlRegsEq, RxRegsEq]
  next =>
    split at h
    next =>
      split at h <;> cases h <;> simp [AlRegsEq, RxRegsEq]
    next =>
      cases h
      simp [AlRegsEq, RxRegsEq]

theorem HostAnswers.frame_of_ne_restart {i : Instr} {s t : State} (h : HostAnswers i s (.next t))
    (ht : exec i s = .next t) (hne : i ≠ .rxRestart) : AlRegsEq s t ∧ RxRegsEq s t := by
  cases h with
  | answered r => simp [AlRegsEq, RxRegsEq]
  | wroteMem m => simp [AlRegsEq, RxRegsEq]
  | txStarted tag params base _ hi =>
    subst hi
    exact exec_txStart_frame ht
  | rxResumed hi => exact absurd hi hne

/-- RX.RESTART is refused, or takes RX from RX_ERROR to a header boundary (R251). -/
theorem exec_rxRestart_cases {s t : State} (h : exec .rxRestart s = .next t) :
    t.alState = s.alState ∧ (t.rxState = s.rxState ∨
      s.rxState = .error ∧ t.rxState = .hdr ∧ t.rxCnt = 0 ∧ t.rxOutcome = .none) := by
  change execRxRestart s = .next t at h
  unfold execRxRestart at h
  split at h
  next hstopped =>
    cases h
    exact ⟨rfl, .inr ⟨eq_of_beq hstopped, rfl, rfl, rfl⟩⟩
  next =>
    cases h
    exact ⟨rfl, .inl rfl⟩

/-! ### The table of R183 -/

/-- Each step of AL is a row of R183, under its condition. -/
theorem AlAnswers.alMove {s t : State} (h : AlAnswers s (.next t)) : AlMove s t := by
  cases h with
  | waits | headerByte | frameAck | frameNak | frameDropUnknown | frameDropPayloadKind => exact .inl (by simp)
  | frameStr hon =>
    obtain ⟨⟨hstate, hcnt, -, herr⟩, htag⟩ := (onFifth_iff s _).mp hon
    have hbyte : s.alHdr.h0 = 0x03 := (Tag.ofByte_eq_some_iff _ _).mp (eq_of_beq htag)
    exact .inr (.inr (.inl ⟨hstate, rfl, hcnt, hbyte, herr⟩))
  | diagByte b rest hon hret =>
    obtain ⟨hstate, -, herr⟩ := (onAlDiagByte_iff s).mp hon
    by_cases hb : b = s.cfg.diagEol
    · exact .inr (.inr (.inr ⟨hstate, if_pos hb, by simp [hret, hb], herr⟩))
    · exact .inl (if_neg hb)
  | linkError hon =>
    obtain ⟨-, herr⟩ := (onAlLinkErr_iff s).mp hon
    exact .inr (.inl ⟨rfl, herr⟩)

theorem StepKind.alMove {s t : State} (h : StepKind s t) : AlMove s t := by
  cases h with
  | unit u i agenda hi ht =>
    cases u with
    | tx =>
      obtain ⟨⟨hal, -⟩, -⟩ := (ht ▸ txAnswers_exec hi _ : TxAnswers _ (.next t)).frame
      exact .inl hal
    | al => exact (ht ▸ alAnswers_exec hi _ : AlAnswers { s with agenda := agenda } (.next t)).alMove
    | rx =>
      obtain ⟨-, ⟨hal, -⟩, -⟩ := (ht ▸ rxAnswers_exec hi _ : RxAnswers _ (.next t)).frame
      exact .inl hal
  | command i bs agenda his hi ht =>
    by_cases hrestart : i = .rxRestart
    · subst hrestart
      exact .inl (exec_rxRestart_cases ht).1
    · obtain ⟨⟨hal, -⟩, -⟩ :=
        (ht ▸ hostAnswers_exec hi _ : HostAnswers i _ (.next t)).frame_of_ne_restart ht hrestart
      exact .inl hal
  | statesKept hal _ => exact .inl hal

/-! ### The table of R255 -/

/-- `raise` of RX, after a step that has emitted and delivered nothing else, stops RX (R253). -/
theorem rxStops_rxRaise (x : OutcomeCode) {s u : State} (hevt : u.evt = s.evt) (hdlv : u.dlv = s.dlv) :
    RxStops x s (rxRaise x u) :=
  ⟨rfl, rfl, by simp [hevt], hdlv⟩

/-- The byte that completes a header (R232), with `u` what it leaves before the header is acted on: an unknown tag, a
payload that is too long, none, or one to pull. -/
theorem rxMove_rxDispatch {s u : State} (hon : onRxHdrDone s = true) (hnext : rxNextHeader s = some u.rxHdr)
    (hkept : u.rxState = s.rxState) (hcfg : u.cfg = s.cfg) (hevt : u.evt = s.evt) (hdlv : u.dlv = s.dlv) :
    RxMove s (rxDispatch u) := by
  obtain ⟨hstate, hcnt, -, herr⟩ := (onRxHdrDone_iff s).mp hon
  simp only [RxMove, hstate, hnext, ← hcfg]
  rcases rxDispatch_cases u with
    ⟨htag, h⟩ | ⟨tag, len, htag, hlen, ⟨hmax, h⟩ | ⟨-, -, h⟩ | ⟨hmax, hpos, h⟩⟩ <;> rw [h]
  · refine .inr (.inr (.inl ⟨herr, hcnt, rxStops_rxRaise _ hevt hdlv, _, rfl, fun tag htag' => ?_⟩))
    rw [htag] at htag'
    cases htag'
  · refine .inr (.inr (.inl ⟨herr, hcnt, rxStops_rxRaise _ hevt hdlv, _, rfl, fun tag' htag' => ?_⟩))
    rw [htag] at htag'
    cases htag'
    exact hlen ▸ hmax
  · exact .inl (hkept.trans hstate)
  · have hlt : len < 2 ^ 32 := hlen ▸ fcPaylen_lt _ _ _
    refine .inr (.inl ⟨herr, hcnt, by simp, _, tag, rfl, htag, ?_⟩)
    simp only [loadRxWd_rxLen, BitVec.toNat_ofNat, Nat.mod_eq_of_lt hlt]
    exact ⟨hlen, hpos, hmax⟩

/-- The byte that completes a payload (R240, R245). -/
theorem rxMove_of_delivery {s t : State} (hon : onRxPayByte s = true) (hlast : s.rxGot + 1 = s.rxLen)
    (hhdr : t.rxState = .hdr) (hdelivers : RxDelivers s t) : RxMove s t := by
  obtain ⟨hstate, hinb, herr⟩ := (onRxPayByte_iff s).mp hon
  simp only [RxMove, hstate]
  exact .inr (.inl ⟨herr, hinb, hlast, hhdr, hdelivers⟩)

/-- The deadline (R250), inside a header or inside a payload. -/
theorem rxMove_of_timeout {s t : State} (hon : onRxTimeout s = true) (hstops : RxStops .rxTimeout s t) :
    RxMove s t := by
  obtain ⟨hticks, hin, hinb, hwd, herr⟩ := (onRxTimeout_iff s).mp hon
  cases hstate : s.rxState with
  | hdr =>
    have hcnt : s.rxCnt ≠ 0 := by simpa [rxInFrame, hstate] using hin
    simp only [RxMove, hstate]
    exact .inr (.inr (.inr (.inl ⟨herr, hcnt, hticks, hinb, hwd, hstops⟩)))
  | payload =>
    simp only [RxMove, hstate]
    exact .inr (.inr (.inl ⟨herr, hticks, hinb, hwd, hstops⟩))
  | error => simp [rxInFrame, hstate] at hin

/-- A failed link (R252), in any state but RX_ERROR. -/
theorem rxMove_of_linkError {s t : State} (hon : onRxLinkErr s = true) (hstops : RxStops .linkIoFailure s t) :
    RxMove s t := by
  obtain ⟨hne, herr⟩ := (onRxLinkErr_iff s).mp hon
  cases hstate : s.rxState with
  | hdr =>
    simp only [RxMove, hstate]
    exact .inr (.inr (.inr (.inr ⟨herr, hstops⟩)))
  | payload =>
    simp only [RxMove, hstate]
    exact .inr (.inr (.inr ⟨herr, hstops⟩))
  | error => exact absurd hstate hne

/-- RX.RESTART (R251). -/
theorem rxMove_of_restart {s t : State} (hstate : s.rxState = .error) (his : CommandIs .rxRestart s)
    (hback : t.rxState = .hdr ∧ t.rxCnt = 0 ∧ t.rxOutcome = .none) : RxMove s t := by
  simp only [RxMove, hstate]
  exact .inr ⟨his, hback⟩

/-- Each step of RX is a row of R255, under its condition. The choices still to come are replaced before the step, since
the table reads them in `s`. -/
theorem RxAnswers.rxMove {s t : State} {agenda : List AgendaItem}
    (h : RxAnswers { s with agenda := agenda } (.next t)) : RxMove s t := by
  cases h with
  | waits => exact .inl rfl
  | headerByte | payloadByte => exact .inl (by simp)
  | headerDone b rest hon hinb =>
    have hinb : s.inb = b :: rest := hinb
    have hnext : rxNextHeader s = some { s.rxHdr with h4 := b } := by simp [rxNextHeader, hinb]
    exact rxMove_rxDispatch hon hnext rfl rfl rfl rfl
  | lastPayloadByte b rest hon _ _ hlast => exact rxMove_of_delivery hon hlast rfl ⟨_, deliver_dlv _, rfl, rfl⟩
  | timeout hon => exact rxMove_of_timeout hon (rxStops_rxRaise _ rfl rfl)
  | linkError hon => exact rxMove_of_linkError hon (rxStops_rxRaise _ rfl rfl)

theorem StepKind.rxMove {s t : State} (h : StepKind s t) : RxMove s t := by
  cases h with
  | unit u i agenda hi ht =>
    cases u with
    | tx =>
      obtain ⟨-, ⟨hrx, -⟩, -⟩ := (ht ▸ txAnswers_exec hi _ : TxAnswers _ (.next t)).frame
      exact .inl hrx
    | al =>
      obtain ⟨-, ⟨hrx, -⟩, -⟩ := (ht ▸ alAnswers_exec hi _ : AlAnswers _ (.next t)).frame
      exact .inl hrx
    | rx => exact (ht ▸ rxAnswers_exec hi _ : RxAnswers _ (.next t)).rxMove
  | command i bs agenda his hi ht =>
    by_cases hrestart : i = .rxRestart
    · subst hrestart
      obtain ⟨-, hkept | ⟨hstate, hback⟩⟩ := exec_rxRestart_cases ht
      · exact .inl hkept
      · exact rxMove_of_restart hstate his hback
    · obtain ⟨-, hrx, -⟩ :=
        (ht ▸ hostAnswers_exec hi _ : HostAnswers i _ (.next t)).frame_of_ne_restart ht hrestart
      exact .inl hrx
  | statesKept _ hrx => exact .inl hrx

/-- Settles O56: a step is a unit's, a command's, or leaves both states alone; each is a row of the two tables. -/
theorem listenerAndReceiverFollowTheirTables : Obligations.ListenerAndReceiverFollowTheirTables :=
  fun _ _ h hreset hframe =>
    have hkind := stepKind_of_step h hreset hframe
    ⟨hkind.alMove, hkind.rxMove⟩

end Sys2Proof.Machine

/-! PROOFS. The transmitter's invariant (spec/43_chunk_transmitter.md R212): TxInv state by state; then that each step of
TX and TX.START keep it, and that no other step touches what it reads. -/

namespace Sys2Proof.Machine

/-! ### The invariant, state by state (R212) -/

section InvariantByState

variable {s : State}

theorem txInv_of_idle (h : s.txState = .idle) : TxInv s := by
  simp [TxInv, h]

theorem txInv_iff_of_hsSend (h : s.txState = .hsSend) :
    TxInv s ↔ TxSession s ∧ s.sent = 0 ∧ s.expect = 0 ∧ s.txIdx.toNat < 5 := by
  simp [TxInv, h]

theorem txInv_iff_of_hsWait (h : s.txState = .hsWait) :
    TxInv s ↔
      TxSession s ∧ s.sent = 0 ∧ s.expect = 0 ∧ s.txIdx = 5 ∧ s.wd.toNat ≤ s.cfg.handshakeTimeoutTicks := by
  simp [TxInv, h]

theorem txInv_iff_of_chunkSend (h : s.txState = .chunkSend) :
    TxInv s ↔
      TxSession s ∧ 1 ≤ s.chunkRem.toNat ∧ s.chunkRem.toNat ≤ s.cfg.chunkSize ∧
        s.sent.toNat + s.chunkRem.toNat = chunkEnd s ∧ s.expect.toNat * s.cfg.chunkSize ≤ s.sent.toNat := by
  simp [TxInv, h]

theorem txInv_iff_of_chunkWait (h : s.txState = .chunkWait) :
    TxInv s ↔
      TxSession s ∧ s.chunkRem = 0 ∧ s.sent.toNat = chunkEnd s ∧
        s.expect.toNat * s.cfg.chunkSize < s.sent.toNat ∧ s.wd.toNat ≤ s.cfg.chunkAckTimeoutTicks := by
  simp [TxInv, h]

/-- The invariant reads nothing but the registers of TX and the configuration. -/
theorem TxInv.congr {t : State} (hs : TxInv s) (hregs : TxRegsEq s t) (hcfg : t.cfg = s.cfg) : TxInv t := by
  obtain ⟨hstate, hidx, htag, hparams, hbase, hlen, hsent, hexpect, hrem, hwd, houtcome, hinfo⟩ := hregs
  simp only [TxInv, TxSession, chunkEnd, hstate, hidx, htag, hparams, hbase, hlen, hsent, hexpect, hrem, hwd, houtcome,
    hinfo, hcfg]
  exact hs

/-- The watchdog is bounded from above only. -/
theorem TxInv.of_wd_le (hs : TxInv s) {wd : U32} (hwd : wd.toNat ≤ s.wd.toNat) : TxInv { s with wd := wd } := by
  cases h : s.txState with
  | idle => exact txInv_of_idle rfl
  | hsSend => exact (txInv_iff_of_hsSend rfl).mpr ((txInv_iff_of_hsSend h).mp hs)
  | hsWait =>
    obtain ⟨hsession, hsent, hexpect, hidx, hle⟩ := (txInv_iff_of_hsWait h).mp hs
    exact (txInv_iff_of_hsWait rfl).mpr ⟨hsession, hsent, hexpect, hidx, Nat.le_trans hwd hle⟩
  | chunkSend => exact (txInv_iff_of_chunkSend rfl).mpr ((txInv_iff_of_chunkSend h).mp hs)
  | chunkWait =>
    obtain ⟨hsession, hrem, hsent, hexpect, hle⟩ := (txInv_iff_of_chunkWait h).mp hs
    exact (txInv_iff_of_chunkWait rfl).mpr ⟨hsession, hrem, hsent, hexpect, Nat.le_trans hwd hle⟩

end InvariantByState

/-! ### Each step keeps the invariant -/

/-- A chunk's length fits its register: CHUNK_SIZE is at most 32 (R8). -/
theorem nextChunk_toNat (s : State) :
    (nextChunk s).toNat = min (s.totalLen.toNat - s.sent.toNat) s.cfg.chunkSize := by
  obtain ⟨-, hle⟩ := s.cfg.chunkSize_ok
  rw [nextChunk, BitVec.toNat_ofNat, Nat.mod_eq_of_lt (by omega)]

/-- A watchdog's ticks fit its register (log 13). -/
theorem handshakeTicks_toNat (c : Config) :
    (BitVec.ofNat 32 c.handshakeTimeoutTicks).toNat = c.handshakeTimeoutTicks :=
  Nat.mod_eq_of_lt c.handshakeTimeoutTicks_ok.2

theorem chunkAckTicks_toNat (c : Config) :
    (BitVec.ofNat 32 c.chunkAckTimeoutTicks).toNat = c.chunkAckTimeoutTicks :=
  Nat.mod_eq_of_lt c.chunkAckTimeoutTicks_ok.2

/-- With exactly `expect` whole chunks acknowledged and payload left, TX goes on with the next chunk (R197, R204). -/
theorem txInv_txNextChunk {s : State} (hsession : TxSession s)
    (hsent : s.sent.toNat = s.expect.toNat * s.cfg.chunkSize) (hlen : s.sent.toNat < s.totalLen.toNat) :
    TxInv (txNextChunk s) := by
  obtain ⟨hpos, -⟩ := s.cfg.chunkSize_ok
  have hend : chunkEnd s = min (s.sent.toNat + s.cfg.chunkSize) s.totalLen.toNat := by
    rw [chunkEnd, Nat.succ_mul, hsent]
  have hrem := nextChunk_toNat s
  refine (txInv_iff_of_chunkSend rfl).mpr ⟨hsession, ?_, ?_, ?_, Nat.le_of_eq hsent.symm⟩
  · show 1 ≤ (nextChunk s).toNat
    omega
  · show (nextChunk s).toNat ≤ s.cfg.chunkSize
    omega
  · show s.sent.toNat + (nextChunk s).toNat = chunkEnd s
    omega

/-- After an acknowledged chunk that is not the last, the bytes sent are the whole chunks acknowledged, and counting the
acknowledgement does not wrap (R204). -/
theorem TxInv.sent_of_acknowledged {s : State} (hs : TxInv s) (hstate : s.txState = .chunkWait)
    (hlen : s.sent ≠ s.totalLen) :
    s.sent.toNat < s.totalLen.toNat ∧ s.sent.toNat = (s.expect + 1).toNat * s.cfg.chunkSize := by
  obtain ⟨-, -, hsent, -, -⟩ := (txInv_iff_of_chunkWait hstate).mp hs
  obtain ⟨hpos, -⟩ := s.cfg.chunkSize_ok
  have hne : s.sent.toNat ≠ s.totalLen.toNat := fun h => hlen (BitVec.eq_of_toNat_eq h)
  have hle := Nat.le_mul_of_pos_right (s.expect.toNat + 1) hpos
  have hlt := s.totalLen.isLt
  rw [chunkEnd] at hsent
  have hexpect : (s.expect + 1).toNat = s.expect.toNat + 1 := by
    bv_omega
  rw [hexpect]
  omega

theorem TxAnswers.keeps_txInv {s t : State} (h : TxAnswers s (.next t)) (hs : TxInv s) : TxInv t := by
  cases h with
  | waits => exact hs
  | headerByte b hon hb hidx =>
    obtain ⟨hstate, -⟩ := (onTxHsByte_iff s).mp hon
    obtain ⟨hsession, hsent, hexpect, hlt⟩ := (txInv_iff_of_hsSend hstate).mp hs
    refine (txInv_iff_of_hsSend (by exact hstate)).mpr ⟨hsession, hsent, hexpect, ?_⟩
    show (s.txIdx + 1).toNat < 5
    bv_omega
  | lastHeaderByte b hon hb hidx =>
    obtain ⟨hstate, -⟩ := (onTxHsByte_iff s).mp hon
    obtain ⟨hsession, hsent, hexpect, -⟩ := (txInv_iff_of_hsSend hstate).mp hs
    refine (txInv_iff_of_hsWait rfl).mpr ⟨hsession, hsent, hexpect, ?_, Nat.le_of_eq (handshakeTicks_toNat s.cfg)⟩
    simp [hidx]
  | firstChunk hon hlen =>
    obtain ⟨hstate, -⟩ := (onTxHsAck_iff s).mp hon
    obtain ⟨hsession, hsent, hexpect, -⟩ := (txInv_iff_of_hsWait hstate).mp hs
    refine txInv_txNextChunk (s := aqDrop s) hsession ?_ ?_
    · simp [hsent, hexpect]
    · show s.sent.toNat < s.totalLen.toNat
      bv_omega
  | chunkByte hon hin hrem =>
    obtain ⟨hstate, -⟩ := (onTxChunkByte_iff s).mp hon
    obtain ⟨hsession, hpos, hsize, hend, hexpect⟩ := (txInv_iff_of_chunkSend hstate).mp hs
    have hle : chunkEnd s ≤ s.totalLen.toNat := Nat.min_le_right _ _
    have hrem' : (s.chunkRem - 1).toNat = s.chunkRem.toNat - 1 := by bv_omega
    have hsent' : (s.sent + 1).toNat = s.sent.toNat + 1 := by bv_omega
    have hne : s.chunkRem.toNat ≠ 1 := fun h => hrem (BitVec.eq_of_toNat_eq h)
    refine (txInv_iff_of_chunkSend (by exact hstate)).mpr ⟨hsession, ?_, ?_, ?_, ?_⟩
    · show 1 ≤ (s.chunkRem - 1).toNat
      omega
    · show (s.chunkRem - 1).toNat ≤ s.cfg.chunkSize
      omega
    · show (s.sent + 1).toNat + (s.chunkRem - 1).toNat = chunkEnd s
      omega
    · show s.expect.toNat * s.cfg.chunkSize ≤ (s.sent + 1).toNat
      omega
  | lastChunkByte hon hin hrem =>
    obtain ⟨hstate, -⟩ := (onTxChunkByte_iff s).mp hon
    obtain ⟨hsession, -, -, hend, hexpect⟩ := (txInv_iff_of_chunkSend hstate).mp hs
    have hle : chunkEnd s ≤ s.totalLen.toNat := Nat.min_le_right _ _
    have hone : s.chunkRem.toNat = 1 := by rw [hrem]; rfl
    have hsent' : (s.sent + 1).toNat = s.sent.toNat + 1 := by bv_omega
    refine (txInv_iff_of_chunkWait rfl).mpr ⟨hsession, ?_, ?_, ?_, Nat.le_of_eq (chunkAckTicks_toNat s.cfg)⟩
    · simp [hrem]
    · show (s.sent + 1).toNat = chunkEnd s
      omega
    · show s.expect.toNat * s.cfg.chunkSize < (s.sent + 1).toNat
      omega
  | nextChunk hon hlen =>
    obtain ⟨hstate, -⟩ := (onTxChunkAck_iff s).mp hon
    obtain ⟨hsession, -⟩ := (txInv_iff_of_chunkWait hstate).mp hs
    obtain ⟨hlt, hsent⟩ := hs.sent_of_acknowledged hstate hlen
    exact txInv_txNextChunk (s := { aqDrop s with expect := s.expect + 1 }) hsession hsent hlt
  | _ => exact txInv_of_idle rfl

/-- A tick of the watchdog counts down only (R27). -/
theorem wdTicked_le (s : State) : (wdTicked s).toNat ≤ s.wd.toNat := by
  unfold wdTicked
  split
  next h =>
    obtain ⟨-, hne⟩ := h
    bv_omega
  next => exact Nat.le_refl _

/-- TX.START loads a session that fits (R191, R192); a tick counts the watchdog down; the other operations of no unit
leave TX alone. -/
theorem OpAnswers.keeps_txInv {s t : State} (h : OpAnswers s (.next t)) (hs : TxInv s) : TxInv t := by
  cases h with
  | txStarted tag params base t hidle htag hin =>
    have hlen : (BitVec.ofNat 32 (fcPaylen s.cfg.tag2Kind t params)).toNat = fcPaylen s.cfg.tag2Kind t params :=
      Nat.mod_eq_of_lt (fcPaylen_lt _ _ _)
    refine (txInv_iff_of_hsSend rfl).mpr ⟨⟨⟨t, htag, hlen⟩, ?_, rfl, rfl⟩, rfl, rfl, Nat.zero_lt_succ 4⟩
    simpa [hlen] using hin
  | txStartFailed => exact txInv_of_idle rfl
  | ticked => exact (hs.of_wd_le (wdTicked_le s)).congr (by simp [TxRegsEq]) rfl
  | _ => exact hs.congr (by simp [TxRegsEq]) (by simp)

theorem exec_keeps_txInv {i : Instr} {s t : State} (hframe : i.header = none) (hs : TxInv s)
    (ht : exec i s = .next t) : TxInv t := by
  rcases ht ▸ exec_cases hframe s with h | h | h | h
  · exact h.keeps_txInv hs
  · obtain ⟨hregs, -, ⟨-, -, -, hcfg, -⟩, -⟩ := h.frame
    exact hs.congr hregs hcfg
  · obtain ⟨hregs, -, ⟨-, -, -, hcfg, -⟩, -⟩ := h.frame
    exact hs.congr hregs hcfg
  · exact h.keeps_txInv hs

/-- Settles O31: by induction over what a step can do; TX's own steps and TX.START carry the argument. -/
theorem transmitterInvariantIsKept : Obligations.TransmitterInvariantIsKept := fun _ _ =>
  step_induct TxInv
    (exec_keeps := fun _ _ _ => exec_keeps_txInv)
    (agenda_keeps := fun _ _ h => h)
    (ret_keeps := fun _ _ h => h)
    (inb_keeps := fun _ _ h => h)
    (out_keeps := fun _ h => h)
    (pop_keeps := fun _ c h => by cases c <;> exact h)
    (error_keeps := fun _ l h => by cases l <;> exact h)
    (reset_keeps := fun s _ => txInv_resetTo s.cfg (s.epoch + 1) s.agenda)

end Sys2Proof.Machine

/-! PROOFS. TX.START (spec/43_chunk_transmitter.md R191 to R193) by its conditions; then the table of TX (R217): each step
of TX is a row of it, TX.START the only command that moves TX, and every other step leaves `tx_state` alone. -/

namespace Sys2Proof.Machine

/-! ### TX.START (R191 to R193) -/

theorem payTag_eq_none_iff (b : Byte) : payTag b = none ↔ b ∉ ([0x01, 0x02, 0x03, 0x04] : List Byte) := by
  revert b
  decide

section Start

variable {tag : Byte} {params : Params} {base : U32} {s : State} {k : Tag}

theorem exec_txStart_of_busy (h : s.txState ≠ .idle) :
    exec (.txStart tag params base) s = .next { s with result := .status .cmdRejected } := by
  simp [exec, execTxStart, txBusy, h]

theorem exec_txStart_of_past_mem (hidle : s.txState = .idle) (htag : payTag tag = some k)
    (hpast : s.cfg.memBytes < base.toNat + fcPaylen s.cfg.tag2Kind k params) :
    exec (.txStart tag params base) s = .next { s with result := .status .cmdRejected } := by
  simp [exec, execTxStart, txBusy, hidle, htag, hpast]

theorem exec_txStart_of_fits (hidle : s.txState = .idle) (htag : payTag tag = some k)
    (hfits : base.toNat + fcPaylen s.cfg.tag2Kind k params ≤ s.cfg.memBytes) :
    exec (.txStart tag params base) s = .next (setResult (.status .accepted)
      { txLoad tag params base (fcPaylen s.cfg.tag2Kind k params) s with txState := .hsSend }) := by
  simp [exec, execTxStart, txBusy, hidle, htag, Nat.not_lt_of_le hfits, setResult]

theorem exec_txStart_of_no_payload_kind (hidle : s.txState = .idle) (htag : payTag tag = none) :
    exec (.txStart tag params base) s =
      .next (setResult (.status .accepted) (txRaise .malformedFrame (txLoad tag params base 0 s))) := by
  simp [exec, execTxStart, txBusy, hidle, htag, setResult]

/-- All that TX.START can do to `tx_state`: nothing (R192, R193), or begin a session (R191). -/
theorem exec_txStart_cases {t : State} (h : exec (.txStart tag params base) s = .next t) :
    t.txState = s.txState ∨
      s.txState = .idle ∧ ∃ k, payTag tag = some k ∧ t = setResult (.status .accepted)
        { txLoad tag params base (fcPaylen s.cfg.tag2Kind k params) s with txState := .hsSend } := by
  by_cases hidle : s.txState = .idle
  · cases htag : payTag tag with
    | none =>
      rw [exec_txStart_of_no_payload_kind hidle htag] at h
      cases h
      exact .inl hidle.symm
    | some k =>
      rcases Nat.lt_or_ge s.cfg.memBytes (base.toNat + fcPaylen s.cfg.tag2Kind k params) with hpast | hfits
      · rw [exec_txStart_of_past_mem hidle htag hpast] at h
        cases h
        exact .inl rfl
      · rw [exec_txStart_of_fits hidle htag hfits] at h
        cases h
        exact .inr ⟨hidle, k, rfl, rfl⟩
  · rw [exec_txStart_of_busy hidle] at h
    cases h
    exact .inl rfl

end Start

/-- Settles O24: a payload kind that fits is loaded. -/
theorem startLoadsTheSession : Obligations.StartLoadsTheSession := by
  intro tag params base s t hidle htag hack hnak hfits
  exact exec_txStart_of_fits hidle ((payTag_eq_some_iff tag t).mpr ⟨htag, hack, hnak⟩) hfits

/-- Settles O25: the two rejections, and the tag that is no payload kind. -/
theorem startIsRejectedOrMalformed : Obligations.StartIsRejectedOrMalformed := by
  refine ⟨fun tag params base s => exec_txStart_of_busy, ?pastMem, ?noPayloadKind⟩
  case pastMem =>
    intro tag params base s t hidle htag hack hnak hpast
    exact exec_txStart_of_past_mem hidle ((payTag_eq_some_iff tag t).mpr ⟨htag, hack, hnak⟩) hpast
  case noPayloadKind =>
    intro tag params base s hidle htag
    rw [exec_txStart_of_no_payload_kind hidle ((payTag_eq_none_iff tag).mpr htag)]
    simp [setResult, txRaise, txLoad, hidle]

/-! ### The table of R217: the rows of TX's own steps -/

/-- `raise` of TX, after a step that has emitted nothing else, ends the attempt (R211). -/
theorem txEnds_txRaise (x : OutcomeCode) {s u : State} (hevt : u.evt = s.evt) : TxEnds x s (txRaise x u) :=
  ⟨rfl, rfl, by simp [hevt]⟩

/-- A failed link ends every running attempt (R209). -/
theorem txMove_of_linkError {s t : State} (hon : onTxLinkErr s = true) (hends : TxEnds .linkIoFailure s t) :
    TxMove s t := by
  obtain ⟨hbusy, herr⟩ := (onTxLinkErr_iff s).mp hon
  cases hstate : s.txState with
  | idle => exact absurd hstate hbusy
  | hsSend =>
    simp only [TxMove, hstate]
    exact .inr (.inr ⟨herr, hends⟩)
  | hsWait =>
    simp only [TxMove, hstate]
    exact .inr (.inl ⟨herr, hends⟩)
  | chunkSend =>
    simp only [TxMove, hstate]
    exact .inr (.inr ⟨herr, hends⟩)
  | chunkWait =>
    simp only [TxMove, hstate]
    exact .inr (.inl ⟨herr, hends⟩)

/-- The head of a queue whose first entry is an Ack of `v` is what a mismatch keeps (R199, R206). -/
theorem entry_of_head? {aq rest : List Entry} {e : Entry} {v : U32} (haq : aq = e :: rest)
    (hhead : aq.head? = some (.val v)) : e = .val v := by
  rw [haq] at hhead
  exact Option.some.inj hhead

/-- Each step of TX is a row of R217, under its condition. The choices still to come are replaced before the step, since
the table reads them in `s`. -/
theorem TxAnswers.txMove {s t : State} {agenda : List AgendaItem}
    (h : TxAnswers { s with agenda := agenda } (.next t)) : TxMove s t := by
  cases h with
  | waits | headerByte | chunkByte => exact .inl rfl
  | lastHeaderByte b hon hb hidx =>
    obtain ⟨hstate, herr⟩ := (onTxHsByte_iff _).mp hon
    simp only [TxMove, show s.txState = _ from hstate]
    exact .inr (.inl ⟨trivial, hidx, herr⟩)
  | emptyTransferDone hon hlen =>
    obtain ⟨hstate, herr, hhead⟩ := (onTxHsAck_iff _).mp hon
    simp only [TxMove, show s.txState = _ from hstate]
    exact .inr (.inr ⟨herr, .inr (.inl ⟨hhead, hlen, txEnds_txRaise _ rfl⟩)⟩)
  | firstChunk hon hlen =>
    obtain ⟨hstate, herr, hhead⟩ := (onTxHsAck_iff _).mp hon
    simp only [TxMove, show s.txState = _ from hstate]
    exact .inr (.inr ⟨herr, .inl ⟨hhead, hlen, rfl⟩⟩)
  | handshakeNak hon =>
    obtain ⟨hstate, herr, hhead⟩ := (onTxHsNak_iff _).mp hon
    simp only [TxMove, show s.txState = _ from hstate]
    exact .inr (.inr ⟨herr, .inr (.inr (.inl ⟨hhead, txEnds_txRaise _ rfl⟩))⟩)
  | handshakeMismatch e rest hon haq =>
    obtain ⟨hstate, herr, v, hhead, hne⟩ := (onTxHsMismatch_iff _).mp hon
    simp only [TxMove, show s.txState = _ from hstate]
    exact .inr (.inr ⟨herr, .inr (.inr (.inr (.inl
      ⟨v, hhead, hne, entry_of_head? haq hhead, txEnds_txRaise _ rfl⟩)))⟩)
  | handshakeTimeout hon =>
    obtain ⟨hstate, herr, hempty, hwd⟩ := (onTxHsTimeout_iff _).mp hon
    simp only [TxMove, show s.txState = _ from hstate]
    exact .inr (.inr ⟨herr, .inr (.inr (.inr (.inr
      ⟨List.head?_eq_none_iff.mp hempty, hwd, txEnds_txRaise _ rfl⟩)))⟩)
  | lastChunkByte hon hin hrem =>
    obtain ⟨hstate, herr⟩ := (onTxChunkByte_iff _).mp hon
    simp only [TxMove, show s.txState = _ from hstate]
    exact .inr (.inl ⟨trivial, hrem, herr⟩)
  | transferDone hon hlen =>
    obtain ⟨hstate, herr, hhead⟩ := (onTxChunkAck_iff _).mp hon
    simp only [TxMove, show s.txState = _ from hstate]
    exact .inr (.inr ⟨herr, .inr (.inl ⟨hhead, hlen, txEnds_txRaise _ rfl⟩)⟩)
  | nextChunk hon hlen =>
    obtain ⟨hstate, herr, hhead⟩ := (onTxChunkAck_iff _).mp hon
    simp only [TxMove, show s.txState = _ from hstate]
    exact .inr (.inr ⟨herr, .inl ⟨hhead, hlen, rfl⟩⟩)
  | chunkNak hon =>
    obtain ⟨hstate, herr, hhead⟩ := (onTxChunkNak_iff _).mp hon
    simp only [TxMove, show s.txState = _ from hstate]
    exact .inr (.inr ⟨herr, .inr (.inr (.inl ⟨hhead, txEnds_txRaise _ rfl⟩))⟩)
  | chunkMismatch e rest hon haq =>
    obtain ⟨hstate, herr, v, hhead, hne⟩ := (onTxChunkMismatch_iff _).mp hon
    simp only [TxMove, show s.txState = _ from hstate]
    exact .inr (.inr ⟨herr, .inr (.inr (.inr (.inl
      ⟨v, hhead, hne, entry_of_head? haq hhead, txEnds_txRaise _ rfl⟩)))⟩)
  | chunkTimeout hon =>
    obtain ⟨hstate, herr, hempty, hwd⟩ := (onTxChunkTimeout_iff _).mp hon
    simp only [TxMove, show s.txState = _ from hstate]
    exact .inr (.inr ⟨herr, .inr (.inr (.inr (.inr
      ⟨List.head?_eq_none_iff.mp hempty, hwd, txEnds_txRaise _ rfl⟩)))⟩)
  | linkError hon => exact txMove_of_linkError hon (txEnds_txRaise _ rfl)

/-! ### The table of R217: every other step -/

/-- A whole frame is read by AL or RX, which leave TX alone (R306). -/
theorem receiveFrame_txState {l : InLink} {h : Header} {s t : State} (ht : receiveFrame l h s = .next t) :
    t.txState = s.txState := by
  cases l with
  | ret =>
    refine turns_induct (turn := alTurn) (·.txState = s.txState) (fun u v hu hv => ?_) 5
      { s with ret := s.ret ++ h.bytes } t rfl ht
    obtain ⟨⟨hstate, -⟩, -⟩ := (hv ▸ alAnswers_alTurn u : AlAnswers u (.next v)).frame
    exact hstate.trans hu
  | inb =>
    refine turns_induct (turn := rxTurn) (·.txState = s.txState) (fun u v hu hv => ?_) 5
      { s with inb := s.inb ++ h.bytes } t rfl ht
    obtain ⟨⟨hstate, -⟩, -⟩ := (hv ▸ rxAnswers_rxTurn u : RxAnswers u (.next v)).frame
    exact hstate.trans hu

/-- A unit's selected step, or waiting: only TX's own steps move TX. -/
theorem txMove_of_runOrWait {s t : State} {o : Option Instr} {agenda : List AgendaItem}
    (ho : ∀ i, o = some i → ∃ u, unitOf i = some u) (h : runOrWait o { s with agenda := agenda } = .next t) :
    TxMove s t := by
  cases o with
  | none =>
    cases h
    exact .inl rfl
  | some i =>
    obtain ⟨u, hi⟩ := ho i rfl
    change exec i { s with agenda := agenda } = .next t at h
    cases u with
    | tx => exact (h ▸ txAnswers_exec hi _ : TxAnswers _ (.next t)).txMove
    | al =>
      obtain ⟨⟨hstate, -⟩, -⟩ := (h ▸ alAnswers_exec hi _ : AlAnswers _ (.next t)).frame
      exact .inl hstate
    | rx =>
      obtain ⟨⟨hstate, -⟩, -⟩ := (h ▸ rxAnswers_exec hi _ : RxAnswers _ (.next t)).frame
      exact .inl hstate

/-- TX.START is the only command that moves TX, out of TX_IDLE (R191). -/
theorem txMove_of_command {s t : State} {i : Instr} {bs : List Byte} {agenda : List AgendaItem} (his : CommandIs i s)
    (hi : i.command = some bs) (h : exec i { s with agenda := agenda } = .next t) : TxMove s t := by
  have hanswers : HostAnswers i { s with agenda := agenda } (.next t) := h ▸ hostAnswers_exec hi _
  cases hanswers with
  | answered | wroteMem | rxResumed => exact .inl rfl
  | txStarted tag params base u hstart =>
    subst hstart
    rcases exec_txStart_cases h with hkept | ⟨hidle, k, htag, hloaded⟩
    · exact .inl hkept
    · rw [hloaded]
      simp only [TxMove, show s.txState = _ from hidle]
      exact .inr ⟨tag, params, base, his, by simp [htag], rfl, rfl, rfl, rfl, rfl, rfl⟩

/-- Settles O35: by the choice the step takes off the agenda; only a unit's turn and a command can move TX. -/
theorem transmitterFollowsItsTable : Obligations.TransmitterFollowsItsTable := by
  intro s t h hreset
  cases ha : s.agenda with
  | nil =>
    rw [step_of_no_choice ha] at h
    refine txMove_of_runOrWait (agenda := s.agenda) (fun i hi => ?_) h
    obtain ⟨u, hu, -⟩ := selectAny_enabled hi
    exact ⟨u, hu⟩
  | cons item rest =>
    cases item with
    | command bs =>
      cases hd : decode s.cfg.tag2Kind .command bs with
      | error e =>
        rw [step_of_bad_command ha hd] at h
        cases h
      | ok i =>
        rw [step_of_command ha hd] at h
        obtain ⟨cs, hi⟩ := command_of_decodeCommand hd
        exact txMove_of_command ⟨bs, rest, ha, hd⟩ hi h
    | frame l hdr =>
      rw [step_of_frame ha, exec_of_header (wf_and_header_decodeFrame _ l hdr).2] at h
      have hkept := receiveFrame_txState h
      exact .inl hkept
    | turn u =>
      rw [step_of_turn ha] at h
      exact txMove_of_runOrWait (fun i hi => ⟨u, (select_enabled hi).1⟩) h
    | tick =>
      rw [step_of_tick ha] at h
      cases h
      exact .inl rfl
    | peerByte l b =>
      rw [step_of_peerByte ha] at h
      cases h
      cases l <;> exact .inl rfl
    | linkOut =>
      rw [step_of_linkOut ha] at h
      cases h
      exact .inl rfl
    | hostPop c =>
      rw [step_of_hostPop ha] at h
      cases h
      cases c <;> exact .inl rfl
    | linkErr l =>
      rw [step_of_linkErr ha] at h
      cases h
      cases l <;> exact .inl rfl
    | reset =>
      rw [step_of_reset ha] at h
      cases h
      exact absurd hreset (Nat.succ_ne_self s.epoch)

end Sys2Proof.Machine

/-! PROOFS. The steps of TX one by one (spec/43_chunk_transmitter.md R195 to R209): what each does where it is
enabled. -/

namespace Sys2Proof.Machine

/-- TX after a payload byte that is not its chunk's last (R202). -/
def afterChunkByte (s : State) : State :=
  { s with
    out := s.out ++ [memByte s (s.txBase.toNat + s.sent.toNat)], sent := s.sent + 1, chunkRem := s.chunkRem - 1 }

section EnabledSteps

variable {s : State} {b : Byte} {e : Entry}

/-! ### The handshake (R195 to R200) -/

/-- A header byte that is not the fifth (R195). -/
theorem exec_txHsByte_of_more (hon : onTxHsByte s = true) (htag : Tag.ofByte s.txTag ≠ none)
    (hb : headerByte (headerOf s.txTag s.txParams) s.txIdx.toNat = some b) (hidx : s.txIdx ≠ 4) :
    exec .txHsByte s = .next { s with out := s.out ++ [b], txIdx := s.txIdx + 1 } := by
  simp only [exec, execTxHsByte, hon, fcEncode_of_tag _ htag, hb, if_true, if_neg hidx]

/-- The fifth header byte (R195). -/
theorem exec_txHsByte_of_fifth (hon : onTxHsByte s = true) (htag : Tag.ofByte s.txTag ≠ none)
    (hb : headerByte (headerOf s.txTag s.txParams) s.txIdx.toNat = some b) (hidx : s.txIdx = 4) :
    exec .txHsByte s = .next
      { s with
        out := s.out ++ [b], txIdx := 5, txState := .hsWait
        wd := BitVec.ofNat 32 s.cfg.handshakeTimeoutTicks } := by
  have hfive : s.txIdx + 1 = 5 := by rw [hidx]; rfl
  simp only [exec, execTxHsByte, hon, fcEncode_of_tag _ htag, hb, if_true, if_pos hidx, hfive]

theorem exec_txHsAck_of_empty (hon : onTxHsAck s = true) (hlen : s.totalLen = 0) :
    exec .txHsAck s = .next (txRaise .success (aqDrop s)) := by
  simp [exec, execTxHsAck, hon, hlen]

theorem exec_txHsAck_of_payload (hon : onTxHsAck s = true) (hlen : s.totalLen ≠ 0) :
    exec .txHsAck s = .next (txNextChunk (aqDrop s)) := by
  simp only [exec, execTxHsAck, hon, if_true, if_neg hlen]

theorem exec_txHsNak_of_enabled (hon : onTxHsNak s = true) :
    exec .txHsNak s = .next (txRaise .peerNak (aqDrop s)) := by
  simp [exec, execTxHsNak, hon]

theorem exec_txHsMismatch_of_cons {rest : List Entry} (hon : onTxHsMismatch s = true) (haq : s.aq = e :: rest) :
    exec .txHsMismatch s = .next (txRaise .protocolMismatch { aqDrop s with txInfo := e }) := by
  simp only [exec, execTxHsMismatch, hon, haq, if_true]

theorem exec_txHsTimeout_of_enabled (hon : onTxHsTimeout s = true) :
    exec .txHsTimeout s = .next (txRaise .handshakeTimeout s) := by
  simp [exec, execTxHsTimeout, hon]

/-! ### The chunks (R202 to R207) -/

theorem exec_txChunkByte_of_more (hon : onTxChunkByte s = true)
    (hin : s.txBase.toNat + s.sent.toNat < s.cfg.memBytes) (hrem : s.chunkRem ≠ 1) :
    exec .txChunkByte s = .next (afterChunkByte s) := by
  simp only [afterChunkByte, exec, execTxChunkByte, hon, if_true, if_neg (Nat.not_le_of_lt hin), if_neg hrem]

/-- A chunk's last payload byte (R202). -/
theorem exec_txChunkByte_of_last (hon : onTxChunkByte s = true)
    (hin : s.txBase.toNat + s.sent.toNat < s.cfg.memBytes) (hrem : s.chunkRem = 1) :
    exec .txChunkByte s = .next
      { s with
        out := s.out ++ [memByte s (s.txBase.toNat + s.sent.toNat)], sent := s.sent + 1, chunkRem := 0
        txState := .chunkWait, wd := BitVec.ofNat 32 s.cfg.chunkAckTimeoutTicks } := by
  simp [exec, execTxChunkByte, hon, Nat.not_le_of_lt hin, hrem]

theorem exec_txChunkAck_of_all_sent (hon : onTxChunkAck s = true) (hlen : s.sent = s.totalLen) :
    exec .txChunkAck s = .next (txRaise .success { aqDrop s with expect := s.expect + 1 }) := by
  simp [exec, execTxChunkAck, hon, hlen]

theorem exec_txChunkAck_of_more (hon : onTxChunkAck s = true) (hlen : s.sent ≠ s.totalLen) :
    exec .txChunkAck s = .next (txNextChunk { aqDrop s with expect := s.expect + 1 }) := by
  simp [exec, execTxChunkAck, hon, hlen]

theorem exec_txChunkNak_of_enabled (hon : onTxChunkNak s = true) :
    exec .txChunkNak s = .next (txRaise .peerNak (aqDrop s)) := by
  simp [exec, execTxChunkNak, hon]

theorem exec_txChunkMismatch_of_cons {rest : List Entry} (hon : onTxChunkMismatch s = true)
    (haq : s.aq = e :: rest) :
    exec .txChunkMismatch s = .next (txRaise .protocolMismatch { aqDrop s with txInfo := e }) := by
  simp only [exec, execTxChunkMismatch, hon, haq, if_true]

theorem exec_txChunkTimeout_of_enabled (hon : onTxChunkTimeout s = true) :
    exec .txChunkTimeout s = .next (txRaise .chunkAckTimeout s) := by
  simp [exec, execTxChunkTimeout, hon]

/-! ### A failed link (R209) -/

theorem exec_txLinkErr_of_enabled (hon : onTxLinkErr s = true) :
    exec .txLinkErr s = .next (txRaise .linkIoFailure s) := by
  simp [exec, execTxLinkErr, hon]

end EnabledSteps

theorem aqDrop_of_cons {s : State} {e : Entry} {rest : List Entry} (haq : s.aq = e :: rest) :
    aqDrop s = { s with aq := rest } := by
  rw [aqDrop, haq, List.tail_cons]

/-! ### The statements -/

/-- Settles O26: a byte before the fifth, and the fifth. -/
theorem handshakeByteIsPushed : Obligations.HandshakeByteIsPushed := by
  intro s t b hstate herr htag hb
  have hon := (onTxHsByte_iff s).mpr ⟨hstate, herr⟩
  have htag : Tag.ofByte s.txTag ≠ none := by simp [htag]
  exact ⟨exec_txHsByte_of_more hon htag hb, exec_txHsByte_of_fifth hon htag hb⟩

/-- Settles O27: the matching head by whether anything is left to send. -/
theorem matchingAckIsAccepted : Obligations.MatchingAckIsAccepted := by
  refine ⟨fun s rest hstate herr haq => ?handshake, fun s rest hstate herr haq => ?chunk⟩
  case handshake =>
    have hon := (onTxHsAck_iff s).mpr ⟨hstate, herr, by rw [haq, List.head?_cons]⟩
    refine ⟨fun hlen => ?_, fun hlen => ?_⟩
    · rw [exec_txHsAck_of_empty hon hlen, aqDrop_of_cons haq]
      rfl
    · rw [exec_txHsAck_of_payload hon hlen, aqDrop_of_cons haq]
      rfl
  case chunk =>
    have hon := (onTxChunkAck_iff s).mpr ⟨hstate, herr, by rw [haq, List.head?_cons]⟩
    refine ⟨fun hlen => ?_, fun hlen => ?_⟩
    · rw [exec_txChunkAck_of_all_sent hon hlen, aqDrop_of_cons haq]
      rfl
    · rw [exec_txChunkAck_of_more hon hlen, aqDrop_of_cons haq]
      rfl

/-- Settles O28: a Nak and a wrong value, in either wait state. -/
theorem nakOrWrongAckEndsTheAttempt : Obligations.NakOrWrongAckEndsTheAttempt := by
  refine ⟨fun s rest hstate herr haq => ?hsNak, fun s rest hstate herr haq => ?chunkNak,
    fun s v rest hstate herr haq hne => ?hsMismatch, fun s v rest hstate herr haq hne => ?chunkMismatch⟩
  case hsNak =>
    rw [exec_txHsNak_of_enabled ((onTxHsNak_iff s).mpr ⟨hstate, herr, by rw [haq, List.head?_cons]⟩),
      aqDrop_of_cons haq]
    rfl
  case chunkNak =>
    rw [exec_txChunkNak_of_enabled ((onTxChunkNak_iff s).mpr ⟨hstate, herr, by rw [haq, List.head?_cons]⟩),
      aqDrop_of_cons haq]
    rfl
  case hsMismatch =>
    have hon := (onTxHsMismatch_iff s).mpr ⟨hstate, herr, v, by rw [haq, List.head?_cons], hne⟩
    rw [exec_txHsMismatch_of_cons hon haq, aqDrop_of_cons haq]
    rfl
  case chunkMismatch =>
    have hon := (onTxChunkMismatch_iff s).mpr ⟨hstate, herr, v, by rw [haq, List.head?_cons], hne⟩
    rw [exec_txChunkMismatch_of_cons hon haq, aqDrop_of_cons haq]
    rfl

/-- Settles O29: the three ends that take nothing from the queue. -/
theorem timeoutOrLinkErrorEndsTheAttempt : Obligations.TimeoutOrLinkErrorEndsTheAttempt := by
  refine ⟨fun s hstate herr haq hwd => ?hsTimeout, fun s hstate herr haq hwd => ?chunkTimeout,
    fun s hbusy herr => exec_txLinkErr_of_enabled ((onTxLinkErr_iff s).mpr ⟨hbusy, herr⟩)⟩
  case hsTimeout =>
    exact exec_txHsTimeout_of_enabled ((onTxHsTimeout_iff s).mpr ⟨hstate, herr, by rw [haq, List.head?_nil], hwd⟩)
  case chunkTimeout =>
    exact exec_txChunkTimeout_of_enabled
      ((onTxChunkTimeout_iff s).mpr ⟨hstate, herr, by rw [haq, List.head?_nil], hwd⟩)

/-- Settles O30: a byte of a chunk, and its last byte. -/
theorem payloadByteIsPushed : Obligations.PayloadByteIsPushed := by
  intro s hstate herr hin
  have hon := (onTxChunkByte_iff s).mpr ⟨hstate, herr⟩
  exact ⟨exec_txChunkByte_of_more hon hin, exec_txChunkByte_of_last hon hin⟩

end Sys2Proof.Machine

/-! PROOFS. Runs of TX (spec/43_chunk_transmitter.md R194 to R213, spec/60_exceptions.md R311): the five header bytes, a chunk
by induction on its bytes, a whole transfer by induction on its chunks, and the ticks of the watchdog. -/

namespace Sys2Proof.Machine

/-- `n` turns of TX. -/
abbrev txTurns (n : Nat) : List AgendaItem := List.replicate n (.turn .tx)

/-- A run that begins with a turn of TX begins with its enabled step (R99). Its uses name the run before they
give it its goal's form, so that `s` is read off the enabled step. -/
theorem run_txTurn {s t : State} {i : Instr} (n : Nat) (hi : unitOf i = some .tx) (hon : enabled i s = true)
    (ht : exec i s = .next t) :
    Host.Core.run core (n + 1) { s with agenda := .turn .tx :: s.agenda } = Host.Core.run core n t :=
  run_succ_of_step n ((step_of_enabled hi hon).trans ht)

/-! ### The header (R194, R195) -/

/-- TX in the handshake that began in `s`: `idx` header bytes are pushed and OUT holds `out`. -/
def inHandshake (s : State) (agenda : List AgendaItem) (out : List Byte) (idx : BitVec 3) : State :=
  { s with agenda := agenda, out := out, txIdx := idx }

section Handshake

variable {s : State} {out : List Byte} {idx : BitVec 3} {b : Byte}

/-- A turn that pushes one of the first four header bytes. -/
theorem run_inHandshake (n : Nat) (hstate : s.txState = .hsSend) (herr : s.errOut = false)
    (htag : Tag.ofByte s.txTag ≠ none) (hb : headerByte (headerOf s.txTag s.txParams) idx.toNat = some b)
    (hidx : idx ≠ 4) :
    Host.Core.run core (n + 1) (inHandshake s (txTurns (n + 1)) out idx) =
      Host.Core.run core n (inHandshake s (txTurns n) (out ++ [b]) (idx + 1)) := by
  have hon : enabled .txHsByte (inHandshake s (txTurns n) out idx) = true := (onTxHsByte_iff _).mpr ⟨hstate, herr⟩
  have hrun := run_txTurn n rfl hon (exec_txHsByte_of_more hon htag hb hidx)
  exact hrun

/-- The turn that pushes the fifth. -/
theorem run_ends_handshake (n : Nat) (hstate : s.txState = .hsSend) (herr : s.errOut = false)
    (htag : Tag.ofByte s.txTag ≠ none) :
    Host.Core.run core (n + 1) (inHandshake s (txTurns (n + 1)) out 4) =
      Host.Core.run core n
        { inHandshake s (txTurns n) (out ++ [s.txParams.p3]) 5 with
          txState := .hsWait, wd := BitVec.ofNat 32 s.cfg.handshakeTimeoutTicks } := by
  have hon : enabled .txHsByte (inHandshake s (txTurns n) out 4) = true := (onTxHsByte_iff _).mpr ⟨hstate, herr⟩
  have hrun := run_txTurn n rfl hon (exec_txHsByte_of_fifth hon htag rfl rfl)
  exact hrun

end Handshake

/-- Settles O32: a turn for each header byte. -/
theorem fiveTurnsPushTheHeader : Obligations.FiveTurnsPushTheHeader := by
  intro s hs hstate hidx herr
  obtain ⟨htag, -⟩ := hs.header_to_send hstate
  calc Host.Core.run core 5 { s with agenda := txTurns 5 }
    _ = Host.Core.run core 5 (inHandshake s (txTurns 5) s.out 0) := by rw [inHandshake, ← hidx]
    _ = Host.Core.run core 4 (inHandshake s (txTurns 4) _ 1) := run_inHandshake 4 hstate herr htag rfl (by decide)
    _ = Host.Core.run core 3 (inHandshake s (txTurns 3) _ 2) := run_inHandshake 3 hstate herr htag rfl (by decide)
    _ = Host.Core.run core 2 (inHandshake s (txTurns 2) _ 3) := run_inHandshake 2 hstate herr htag rfl (by decide)
    _ = Host.Core.run core 1 (inHandshake s (txTurns 1) _ 4) := run_inHandshake 1 hstate herr htag rfl (by decide)
    _ = .next { inHandshake s [] _ 5 with
          txState := .hsWait, wd := BitVec.ofNat 32 s.cfg.handshakeTimeoutTicks } :=
      run_ends_handshake 0 hstate herr htag
    _ = _ := by simp only [inHandshake, List.append_assoc, List.cons_append, List.nil_append]; rfl

/-! ### A chunk (R202, R63) -/

/-- A sequence of MEM in two parts. -/
theorem memSeq_add (s : State) (a n m : Nat) : memSeq s a (n + m) = memSeq s a n ++ memSeq s (a + n) m := by
  simp only [memSeq, List.range_add, List.map_append, List.map_map, Function.comp_def, Nat.add_assoc]

theorem memSeq_succ (s : State) (a n : Nat) : memSeq s a (n + 1) = memByte s a :: memSeq s (a + 1) n := by
  rw [Nat.add_comm, memSeq_add]
  rfl

/-- TX has pushed the next `n` payload bytes of `s`, with which a chunk ended, and waits for its acknowledgement. -/
def afterChunk (s : State) (agenda : List AgendaItem) (n : Nat) : State :=
  { s with
    agenda := agenda, out := s.out ++ memSeq s (s.txBase.toNat + s.sent.toNat) n, sent := s.sent + BitVec.ofNat 32 n
    chunkRem := 0, txState := .chunkWait, wd := BitVec.ofNat 32 s.cfg.chunkAckTimeoutTicks }

/-- As many turns of TX as the chunk has bytes left push them and end the chunk; `k` more are still to come. -/
theorem run_chunk (k n : Nat) (s : State) (hstate : s.txState = .chunkSend) (herr : s.errOut = false)
    (hrem : s.chunkRem.toNat = n + 1) (hin : s.txBase.toNat + s.sent.toNat + (n + 1) ≤ s.cfg.memBytes) :
    Host.Core.run core (k + (n + 1)) { s with agenda := txTurns (k + (n + 1)) } =
      Host.Core.run core k (afterChunk s (txTurns k) (n + 1)) := by
  induction n generalizing s with
  | zero =>
    have hon : enabled .txChunkByte { s with agenda := txTurns k } = true :=
      (onTxChunkByte_iff _).mpr ⟨hstate, herr⟩
    have hrun := run_txTurn k rfl hon (exec_txChunkByte_of_last hon hin (BitVec.eq_of_toNat_eq hrem))
    exact hrun
  | succ n ih =>
    have hon : enabled .txChunkByte { s with agenda := txTurns (k + (n + 1)) } = true :=
      (onTxChunkByte_iff _).mpr ⟨hstate, herr⟩
    have hne : s.chunkRem ≠ 1 := by bv_omega
    have hmem := s.cfg.memBytes_ok
    have hsent : (s.sent + 1).toNat = s.sent.toNat + 1 := by bv_omega
    have hrem' : (s.chunkRem - 1).toNat = n + 1 := by bv_omega
    have hin' : s.txBase.toNat + (s.sent + 1).toNat + (n + 1) ≤ s.cfg.memBytes := by omega
    have hsum : s.sent + 1 + BitVec.ofNat 32 (n + 1) = s.sent + BitVec.ofNat 32 (n + 1 + 1) := by
      bv_omega
    have hfirst := run_txTurn (k + (n + 1)) rfl hon
      (exec_txChunkByte_of_more hon (show s.txBase.toNat + s.sent.toNat < s.cfg.memBytes by omega) hne)
    have hrest := ih (afterChunkByte s) hstate herr hrem' hin'
    refine hfirst.trans (hrest.trans ?_)
    simp only [afterChunk, afterChunkByte, memSeq_succ s _ (n + 1), hsum, hsent, List.append_assoc]
    rfl

/-- Settles O33: the run of one chunk, with no turn after it. -/
theorem chunkIsPushedInOrder : Obligations.ChunkIsPushedInOrder := by
  intro s n hstate herr hrem hpos hin
  obtain ⟨m, rfl⟩ := Nat.exists_eq_add_of_le' hpos
  have hrun := run_chunk 0 m s hstate herr hrem hin
  rw [Nat.zero_add] at hrun
  exact hrun

/-! ### The watchdog (R200, R207, R311) -/

/-- While TX waits, a tick takes one from a watchdog that is not 0 (R27). -/
theorem wdTicked_toNat {s : State} (h : txWaiting s = true) : (wdTicked s).toNat = s.wd.toNat - 1 := by
  by_cases hwd : s.wd = 0
  · simp [wdTicked, hwd]
  · simp only [wdTicked, h, hwd, ne_eq, not_false_eq_true, and_self, if_true]
    bv_omega

/-- `n` ticks have passed in a wait of TX; the receive deadline holds `rxWd`. -/
def afterTicks (s : State) (n : Nat) (rxWd : U32) : State :=
  { s with agenda := [], wd := BitVec.ofNat 32 (s.wd.toNat - n), rxWd := rxWd }

theorem run_ticks (n : Nat) (s : State) (h : txWaiting s = true) :
    ∃ rxWd, Host.Core.run core n { s with agenda := List.replicate n .tick } = .next (afterTicks s n rxWd) := by
  induction n generalizing s with
  | zero => exact ⟨s.rxWd, by simp [Host.Core.run, afterTicks]⟩
  | succ n ih =>
    obtain ⟨rxWd, hrest⟩ := ih { s with wd := wdTicked s, rxWd := rxWdTicked s } h
    have hfirst : step { s with agenda := List.replicate (n + 1) .tick } =
        .next { s with agenda := List.replicate n .tick, wd := wdTicked s, rxWd := rxWdTicked s } :=
      (step_of_tick rfl).trans rfl
    refine ⟨rxWd, (run_succ_of_step n hfirst).trans (hrest.trans ?_)⟩
    simp only [afterTicks, wdTicked_toNat h, Nat.sub_sub, Nat.add_comm 1 n]

/-- The timeout step of the wait state TX is in (R200, R207). -/
def txTimeoutStep (s : State) : Instr := if s.txState = .hsWait then .txHsTimeout else .txChunkTimeout

theorem txWaiting_iff (s : State) : txWaiting s = true ↔ s.txState = .hsWait ∨ s.txState = .chunkWait := by
  simp [txWaiting]

theorem unitOf_txTimeoutStep (s : State) : unitOf (txTimeoutStep s) = some .tx := by
  unfold txTimeoutStep
  split <;> rfl

section Waiting

variable {s : State}

/-- On an empty queue and a healthy link the timeout is the step TX can take, once the watchdog is 0. -/
theorem txStepOf_of_empty (h : txWaiting s = true) (herr : s.errOut = false) (haq : s.aq = []) :
    txStepOf s = txTimeoutStep s := by
  rcases (txWaiting_iff s).mp h with hstate | hstate <;> simp [txStepOf, txTimeoutStep, herr, haq, hstate]

theorem enabled_txTimeoutStep_iff (h : txWaiting s = true) (herr : s.errOut = false) (haq : s.aq = []) :
    enabled (txTimeoutStep s) s = true ↔ s.wd = 0 := by
  rcases (txWaiting_iff s).mp h with hstate | hstate
  · have hstep : txTimeoutStep s = .txHsTimeout := by simp [txTimeoutStep, hstate]
    rw [hstep, enabled, onTxHsTimeout_iff]
    simp [hstate, herr, haq]
  · have hstep : txTimeoutStep s = .txChunkTimeout := by simp [txTimeoutStep, hstate]
    rw [hstep, enabled, onTxChunkTimeout_iff]
    simp [hstate, herr, haq]

/-- TX waits until the watchdog is 0, and then has its timeout step. -/
theorem select_of_empty (h : txWaiting s = true) (herr : s.errOut = false) (haq : s.aq = []) :
    select .tx s = if s.wd = 0 then some (txTimeoutStep s) else none := by
  have hiff := enabled_txTimeoutStep_iff h herr haq
  split
  next hwd => exact select_of_enabled (unitOf_txTimeoutStep s) (hiff.mpr hwd)
  next hwd =>
    refine Option.eq_none_iff_forall_ne_some.mpr fun i hi => hwd (hiff.mp ?_)
    obtain ⟨hunit, hon⟩ := select_enabled hi
    rwa [eq_txStepOf hunit hon, txStepOf_of_empty h herr haq] at hon

end Waiting

/-- Settles O36: the ticks count the watchdog down, and TX has its timeout step exactly at 0. -/
theorem watchdogExpiresAfterItsTicks : Obligations.WatchdogExpiresAfterItsTicks := by
  intro s n u hwait herr haq hrun
  obtain ⟨rxWd, hticks⟩ := run_ticks n s hwait
  obtain rfl := Host.Outcome.next.inj (hticks.symm.trans hrun)
  have hselect := select_of_empty (s := afterTicks s n rxWd) hwait herr haq
  refine ⟨rfl, haq, fun hn => ?_, fun hn => ?_⟩
  · have hwd : BitVec.ofNat 32 (s.wd.toNat - n) ≠ 0 := by
      have hlt := s.wd.isLt
      bv_omega
    exact hselect.trans (if_neg hwd)
  · have hwd : BitVec.ofNat 32 (s.wd.toNat - n) = 0 := by
      rw [Nat.sub_eq_zero_of_le hn]
      rfl
    exact ⟨hwd, hselect.trans (if_pos hwd)⟩

/-! ### A whole transfer (R213, R210) -/

/-- Payload is left after `j` whole chunks exactly where there are more than `j` chunks. -/
theorem lt_ceilDiv_iff {c : Nat} (hc : 1 ≤ c) (j n : Nat) : j < ceilDiv n c ↔ j * c < n := by
  rw [ceilDiv, ← Nat.succ_le_iff, Nat.le_div_iff_mul_le hc, Nat.succ_mul]
  omega

/-- The acknowledgements of `n` chunks from chunk `k` on. -/
def chunkAcks (k n : Nat) : List Entry := (List.range' k n).map fun j => .val (BitVec.ofNat 32 j)

theorem chunkAcks_succ (k n : Nat) : chunkAcks k (n + 1) = .val (BitVec.ofNat 32 k) :: chunkAcks (k + 1) n := rfl

/-- TX is about to push chunk `k`, `m` chunks follow it, and the queue holds the acknowledgements of them all, then
`rest`. -/
structure AtChunk (s : State) (k m : Nat) (rest : List Entry) : Prop where
  state : s.txState = .chunkSend
  healthy : s.errOut = false
  inMem : s.txBase.toNat + s.totalLen.toNat ≤ s.cfg.memBytes
  sent : s.sent.toNat = k * s.cfg.chunkSize
  expect : s.expect.toNat = k
  rem : s.chunkRem = nextChunk s
  chunks : ceilDiv s.totalLen.toNat s.cfg.chunkSize = k + (m + 1)
  acks : s.aq = chunkAcks k (m + 1) ++ rest

/-- TX has pushed the payload of `s` from where it stood, has taken `n` acknowledgements, which leaves the queue `rest`,
and has reported Success. -/
def afterTransfer (s : State) (n : Nat) (rest : List Entry) : State :=
  { s with
    agenda := [], aq := rest
    out := s.out ++ memSeq s (s.txBase.toNat + s.sent.toNat) (s.totalLen.toNat - s.sent.toNat)
    sent := s.totalLen, expect := s.expect + BitVec.ofNat 32 n, chunkRem := 0, txState := .idle, txOutcome := .success
    wd := BitVec.ofNat 32 s.cfg.chunkAckTimeoutTicks
    evt := s.evt ++ [.txDone .success s.txInfo s.totalLen (s.expect + BitVec.ofNat 32 n)] }

/-- TX after the acknowledged chunk of `n` bytes that it was about to push in `s`; more payload is left. -/
def nextAtChunk (s : State) (agenda : List AgendaItem) (n : Nat) : State :=
  txNextChunk { aqDrop (afterChunk s agenda n) with expect := s.expect + 1 }

section AtChunk

variable {s : State} {k m : Nat} {rest : List Entry}

/-- The chunk has a byte, ends inside the payload, is whole where others follow, and is all that is left where none does. -/
theorem AtChunk.chunkRem_bounds (h : AtChunk s k m rest) :
    1 ≤ s.chunkRem.toNat ∧ s.sent.toNat + s.chunkRem.toNat ≤ s.totalLen.toNat ∧
      (m = 0 → s.sent.toNat + s.chunkRem.toNat = s.totalLen.toNat) ∧
      (m ≠ 0 → s.chunkRem.toNat = s.cfg.chunkSize ∧
        s.sent.toNat + s.chunkRem.toNat < s.totalLen.toNat) := by
  obtain ⟨hpos, -⟩ := s.cfg.chunkSize_ok
  have hsent := h.sent
  have hrem := (congrArg BitVec.toNat h.rem).trans (nextChunk_toNat s)
  have hthis := lt_ceilDiv_iff hpos k s.totalLen.toNat
  have hnext := lt_ceilDiv_iff hpos (k + 1) s.totalLen.toNat
  rw [h.chunks] at hthis hnext
  rw [Nat.succ_mul] at hnext
  omega

/-- The run of the chunk, as far as its acknowledgement. -/
theorem AtChunk.run_bytes (h : AtChunk s k m rest) (n : Nat) :
    Host.Core.run core (n + s.chunkRem.toNat) { s with agenda := txTurns (n + s.chunkRem.toNat) } =
      Host.Core.run core n (afterChunk s (txTurns n) s.chunkRem.toNat) := by
  obtain ⟨hpos, hle, -⟩ := h.chunkRem_bounds
  have hin := h.inMem
  obtain ⟨r, hr⟩ := Nat.exists_eq_add_of_le' hpos
  rw [hr]
  exact run_chunk n r s h.state h.healthy hr (by omega)

theorem AtChunk.sent_afterChunk (h : AtChunk s k m rest) (agenda : List AgendaItem) :
    (afterChunk s agenda s.chunkRem.toNat).sent.toNat = s.sent.toNat + s.chunkRem.toNat := by
  obtain ⟨-, hle, -⟩ := h.chunkRem_bounds
  have hlt := s.totalLen.isLt
  show (s.sent + BitVec.ofNat 32 s.chunkRem.toNat).toNat = _
  bv_omega

/-- The chunk's acknowledgement is at the head of the queue (R204). -/
theorem AtChunk.ack_enabled (h : AtChunk s k m rest) (agenda : List AgendaItem) (n : Nat) :
    enabled .txChunkAck (afterChunk s agenda n) = true := by
  refine (onTxChunkAck_iff _).mpr ⟨rfl, h.healthy, ?_⟩
  show s.aq.head? = some (.val s.expect)
  rw [h.acks, chunkAcks_succ, ← h.expect, BitVec.ofNat_toNat, BitVec.setWidth_eq]
  rfl

/-- The last chunk's acknowledgement ends the attempt. -/
theorem AtChunk.run_last (h : AtChunk s k 0 rest) :
    Host.Core.run core 1 (afterChunk s (txTurns 1) s.chunkRem.toNat) = .next (afterTransfer s 1 rest) := by
  obtain ⟨-, -, hlast, -⟩ := h.chunkRem_bounds
  have hall : s.sent + BitVec.ofNat 32 s.chunkRem.toNat = s.totalLen :=
    BitVec.eq_of_toNat_eq ((h.sent_afterChunk []).trans (hlast rfl))
  have hleft : s.totalLen.toNat - s.sent.toNat = s.chunkRem.toNat := by have := hlast rfl; omega
  have hrun := run_txTurn 0 rfl (h.ack_enabled [] s.chunkRem.toNat)
    (exec_txChunkAck_of_all_sent (h.ack_enabled [] s.chunkRem.toNat) hall)
  refine hrun.trans ?_
  simp only [afterTransfer, afterChunk, txRaise, aqDrop, hall, hleft, h.acks]
  rfl

/-- Every other chunk's acknowledgement goes on with the next chunk. -/
theorem AtChunk.run_ack (h : AtChunk s k (m + 1) rest) (n : Nat) :
    Host.Core.run core (n + 1) (afterChunk s (txTurns (n + 1)) s.chunkRem.toNat) =
      Host.Core.run core n (nextAtChunk s (txTurns n) s.chunkRem.toNat) := by
  obtain ⟨-, -, -, hmore⟩ := h.chunkRem_bounds
  obtain ⟨-, hlt⟩ := hmore (Nat.succ_ne_zero m)
  have hsent := h.sent_afterChunk (txTurns n)
  have hne : (afterChunk s (txTurns n) s.chunkRem.toNat).sent ≠ s.totalLen := fun heq => by
    rw [heq] at hsent
    omega
  have hrun := run_txTurn n rfl (h.ack_enabled (txTurns n) s.chunkRem.toNat)
    (exec_txChunkAck_of_more (h.ack_enabled (txTurns n) s.chunkRem.toNat) hne)
  exact hrun

theorem AtChunk.next (h : AtChunk s k (m + 1) rest) (agenda : List AgendaItem) :
    AtChunk (nextAtChunk s agenda s.chunkRem.toNat) (k + 1) m rest where
  state := rfl
  healthy := h.healthy
  inMem := h.inMem
  sent := by
    obtain ⟨-, -, -, hmore⟩ := h.chunkRem_bounds
    obtain ⟨hsize, -⟩ := hmore (Nat.succ_ne_zero m)
    rw [Nat.succ_mul]
    exact (h.sent_afterChunk agenda).trans (by rw [h.sent, hsize]; rfl)
  expect := by
    obtain ⟨hpos, -⟩ := s.cfg.chunkSize_ok
    have hlt := (lt_ceilDiv_iff hpos (k + 1) s.totalLen.toNat).mp (by rw [h.chunks]; omega)
    have hle := Nat.le_mul_of_pos_right (k + 1) hpos
    have hmax := s.totalLen.isLt
    have hexpect := h.expect
    show (s.expect + 1).toNat = k + 1
    bv_omega
  rem := rfl
  chunks := h.chunks.trans (by omega)
  acks := by
    show s.aq.tail = _
    rw [h.acks]
    rfl

/-- What the next chunk's run ends in is what this chunk's run ends in. -/
theorem AtChunk.afterTransfer_next (h : AtChunk s k (m + 1) rest) (agenda : List AgendaItem) (n : Nat) :
    afterTransfer (nextAtChunk s agenda s.chunkRem.toNat) n rest = afterTransfer s (n + 1) rest := by
  obtain ⟨-, hle, -⟩ := h.chunkRem_bounds
  have hsent : (s.sent + BitVec.ofNat 32 s.chunkRem.toNat).toNat = s.sent.toNat + s.chunkRem.toNat :=
    h.sent_afterChunk agenda
  have hleft : s.totalLen.toNat - s.sent.toNat =
      s.chunkRem.toNat + (s.totalLen.toNat - (s.sent.toNat + s.chunkRem.toNat)) := by omega
  have hexpect : s.expect + 1 + BitVec.ofNat 32 n = s.expect + BitVec.ofNat 32 (n + 1) := by bv_omega
  have hmem := memSeq_add s (s.txBase.toNat + s.sent.toNat) s.chunkRem.toNat
    (s.totalLen.toNat - (s.sent.toNat + s.chunkRem.toNat))
  rw [afterTransfer, afterTransfer, hleft, hmem, ← hexpect, ← List.append_assoc, Nat.add_assoc, ← hsent]
  rfl

end AtChunk

/-- As many turns of TX as bytes and chunks are left push the bytes, take the acknowledgements and report Success. -/
theorem run_chunks (m : Nat) (s : State) (k n : Nat) (rest : List Entry) (h : AtChunk s k m rest)
    (hn : n = m + 1 + (s.totalLen.toNat - s.sent.toNat)) :
    Host.Core.run core n { s with agenda := txTurns n } = .next (afterTransfer s (m + 1) rest) := by
  induction m generalizing s k n with
  | zero =>
    obtain ⟨-, hle, hlast, -⟩ := h.chunkRem_bounds
    have hsum := hlast rfl
    have hturns : n = 1 + s.chunkRem.toNat := by omega
    rw [hturns, h.run_bytes, h.run_last]
  | succ m ih =>
    obtain ⟨-, hle, -⟩ := h.chunkRem_bounds
    obtain ⟨j, hj⟩ : ∃ j, n = j + 1 + s.chunkRem.toNat := ⟨n - s.chunkRem.toNat - 1, by omega⟩
    have hsent := h.sent_afterChunk (txTurns j)
    have hturns : j = m + 1 + (s.totalLen.toNat - (afterChunk s (txTurns j) s.chunkRem.toNat).sent.toNat) := by omega
    have hrest := ih _ _ j (h.next (txTurns j)) hturns
    rw [hj, h.run_bytes, h.run_ack]
    exact hrest.trans (congrArg _ (h.afterTransfer_next _ _))

section Handshake

variable {s : State} {rest : List Entry} {m : Nat}

/-- The acknowledged handshake of a transfer without payload ends it (R197). -/
theorem run_handshake_of_empty (hstate : s.txState = .hsWait) (herr : s.errOut = false)
    (hhead : s.aq.head? = some (.val s.totalLen)) (hlen : s.totalLen = 0) :
    Host.Core.run core 1 { s with agenda := txTurns 1 } =
      .next (txRaise .success (aqDrop { s with agenda := [] })) := by
  have hon : enabled .txHsAck { s with agenda := [] } = true := (onTxHsAck_iff _).mpr ⟨hstate, herr, hhead⟩
  have hrun := run_txTurn 0 rfl hon (exec_txHsAck_of_empty hon hlen)
  exact hrun

/-- Every other acknowledged handshake goes on with the first chunk (R197). -/
theorem run_handshake (n : Nat) (hstate : s.txState = .hsWait) (herr : s.errOut = false)
    (hhead : s.aq.head? = some (.val s.totalLen)) (hlen : s.totalLen ≠ 0) :
    Host.Core.run core (n + 1) { s with agenda := txTurns (n + 1) } =
      Host.Core.run core n (txNextChunk (aqDrop { s with agenda := txTurns n })) := by
  have hon : enabled .txHsAck { s with agenda := txTurns n } = true := (onTxHsAck_iff _).mpr ⟨hstate, herr, hhead⟩
  have hrun := run_txTurn n rfl hon (exec_txHsAck_of_payload hon hlen)
  exact hrun

theorem TxInv.first_chunk (hs : TxInv s) (hstate : s.txState = .hsWait) (herr : s.errOut = false)
    (hchunks : ceilDiv s.totalLen.toNat s.cfg.chunkSize = m + 1)
    (haq : s.aq = .val s.totalLen :: chunkAcks 0 (m + 1) ++ rest) (agenda : List AgendaItem) :
    AtChunk (txNextChunk (aqDrop { s with agenda := agenda })) 0 m rest := by
  obtain ⟨⟨-, hmem, -⟩, hsent, hexpect, -⟩ := (txInv_iff_of_hsWait hstate).mp hs
  exact {
    state := rfl
    healthy := herr
    inMem := hmem
    sent := by simp [hsent]
    expect := by simp [hexpect]
    rem := rfl
    chunks := by simpa using hchunks
    acks := by simp [haq] }

/-- The run of a transfer of `m + 1` chunks from the handshake's wait. -/
theorem TxInv.run_transfer (hs : TxInv s) (hstate : s.txState = .hsWait) (herr : s.errOut = false)
    (hchunks : ceilDiv s.totalLen.toNat s.cfg.chunkSize = m + 1)
    (haq : s.aq = .val s.totalLen :: chunkAcks 0 (m + 1) ++ rest) (hlen : s.totalLen ≠ 0) (n : Nat)
    (hn : n = m + 1 + s.totalLen.toNat) :
    Host.Core.run core (n + 1) { s with agenda := txTurns (n + 1) } = .next (afterTransfer s (m + 1) rest) := by
  obtain ⟨-, hsent, -⟩ := (txInv_iff_of_hsWait hstate).mp hs
  have hhandshake := run_handshake n hstate herr (by rw [haq]; rfl) hlen
  have hchunk := hs.first_chunk hstate herr hchunks haq (txTurns n)
  have hrun := run_chunks m _ 0 n rest hchunk (by simp [hsent, hn])
  exact hhandshake.trans hrun

end Handshake

/-- Settles O34: without payload the handshake's acknowledgement ends the attempt; else the run over the chunks does. -/
theorem acknowledgedTransferCompletes : Obligations.AcknowledgedTransferCompletes := by
  intro s rest hs hstate herr haq
  obtain ⟨⟨-, -, -, hinfo⟩, hsent, hexpect, -⟩ := (txInv_iff_of_hsWait hstate).mp hs
  obtain ⟨hpos, -⟩ := s.cfg.chunkSize_ok
  have hpayload := lt_ceilDiv_iff hpos 0 s.totalLen.toNat
  cases hchunks : ceilDiv s.totalLen.toNat s.cfg.chunkSize with
  | zero =>
    rw [hchunks] at hpayload haq
    have hlen : s.totalLen.toNat = 0 := by omega
    have hzero : s.totalLen = 0 := BitVec.eq_of_toNat_eq hlen
    have hrun := run_handshake_of_empty hstate herr (by rw [haq]; rfl) hzero
    refine ⟨txRaise .success (aqDrop { s with agenda := [] }), by rw [hlen]; exact hrun, ?_⟩
    simp [hsent, hexpect, hzero, haq, hinfo, memSeq]
  | succ m =>
    rw [hchunks, List.range_eq_range'] at haq
    rw [hchunks] at hpayload
    have hne : s.totalLen ≠ 0 := fun h => by simp [h] at hpayload
    have hfits : m + 1 < 2 ^ 32 := by
      have hlast := (lt_ceilDiv_iff hpos m s.totalLen.toNat).mp (by omega)
      have hle := Nat.le_mul_of_pos_right m hpos
      have hmax := s.totalLen.isLt
      omega
    have hturns : 1 + s.totalLen.toNat + (m + 1) = m + 1 + s.totalLen.toNat + 1 := by omega
    have hrun := hs.run_transfer hstate herr hchunks haq hne _ rfl
    refine ⟨afterTransfer s (m + 1) rest, by rw [hturns]; exact hrun, rfl, rfl, rfl, ?expect, rfl, ?out, ?evt, rfl⟩
    case expect =>
      show (s.expect + BitVec.ofNat 32 (m + 1)).toNat = m + 1
      bv_omega
    case out =>
      show s.out ++ memSeq s (s.txBase.toNat + s.sent.toNat) (s.totalLen.toNat - s.sent.toNat) = _
      rw [hsent]
      rfl
    case evt =>
      rw [← hinfo]
      rfl

end Sys2Proof.Machine

/-! PROOFS. The receiver (spec/44_chunk_receiver.md R231 to R253): RxInv state by state, and that each step of RX and
RX.RESTART keep it; then what a completed header comes to, and the steps of RX one by one; last the five turns that take
a whole header. -/

namespace Sys2Proof.Machine

/-! ### The invariant, state by state (R240, R253) -/

section InvariantByState

variable {s : State}

theorem rxInv_iff_of_hdr (h : s.rxState = .hdr) : RxInv s ↔ s.rxCnt.toNat ≤ 4 ∧ s.rxOutcome = .none := by
  simp [RxInv, h]

theorem rxInv_iff_of_payload (h : s.rxState = .payload) :
    RxInv s ↔
      s.rxCnt = 0 ∧ s.rxOutcome = .none ∧ s.rxGot.toNat < s.rxLen.toNat ∧ s.rxLen.toNat ≤ s.cfg.maxPayload ∧
        (∃ t, Tag.ofByte s.rxTag = some t ∧ s.rxLen.toNat = fcPaylen s.cfg.tag2Kind t s.rxParams) ∧
        ∀ i < s.rxGot.toNat, Memory.read? s.rxbuf i ≠ none := by
  simp [RxInv, h]

theorem rxInv_iff_of_error (h : s.rxState = .error) :
    RxInv s ↔
      s.rxCnt.toNat ≤ 4 ∧
        (s.rxOutcome = .malformedFrame ∨ s.rxOutcome = .linkIoFailure ∨ s.rxOutcome = .rxTimeout) := by
  simp [RxInv, h]

/-- In every state of RX `rx_cnt` counts at most four bytes of a header (R231). -/
theorem RxInv.rxCnt_le (hs : RxInv s) : s.rxCnt.toNat ≤ 4 := by
  cases hstate : s.rxState with
  | hdr => exact ((rxInv_iff_of_hdr hstate).mp hs).1
  | payload =>
    obtain ⟨hcnt, -⟩ := (rxInv_iff_of_payload hstate).mp hs
    simp [hcnt]
  | error => exact ((rxInv_iff_of_error hstate).mp hs).1

/-- The invariant reads nothing but the registers of RX, RXBUF and the configuration. -/
theorem RxInv.congr {t : State} (hs : RxInv s) (hregs : RxRegsEq s t) (hcfg : t.cfg = s.cfg) : RxInv t := by
  obtain ⟨hstate, hcnt, -, htag, hparams, hlen, hgot, -, houtcome, hrxbuf⟩ := hregs
  simp only [RxInv, hstate, hcnt, htag, hparams, hlen, hgot, houtcome, hrxbuf, hcfg]
  exact hs

/-- The invariant does not read the deadline. -/
theorem RxInv.loadRxWd (hs : RxInv s) : RxInv (loadRxWd s) := by
  rw [loadRxWd_eq]
  exact hs

/-! ### Each step keeps the invariant -/

/-- `raise` of RX stops it with the outcome raised (R253). -/
theorem rxInv_rxRaise {x : OutcomeCode} (hx : x = .malformedFrame ∨ x = .linkIoFailure ∨ x = .rxTimeout)
    (hcnt : s.rxCnt.toNat ≤ 4) : RxInv (rxRaise x s) :=
  (rxInv_iff_of_error rfl).mpr ⟨hcnt, hx⟩

/-- A completed header stops RX, ends the frame, or leaves it before a payload of the announced length, of which no byte
has been stored (R232 to R239). -/
theorem rxInv_rxDispatch (hstate : s.rxState = .hdr) (hcnt : s.rxCnt = 0) (hout : s.rxOutcome = .none) :
    RxInv (rxDispatch s) := by
  have hle : s.rxCnt.toNat ≤ 4 := by simp [hcnt]
  rcases rxDispatch_cases s with ⟨-, h⟩ | ⟨t, len, htag, hlen, ⟨-, h⟩ | ⟨-, -, h⟩ | ⟨hmax, hpos, h⟩⟩ <;> rw [h]
  · exact rxInv_rxRaise (.inl rfl) hle
  · exact rxInv_rxRaise (.inl rfl) hle
  · exact (rxInv_iff_of_hdr (by exact hstate)).mpr ⟨hle, hout⟩
  · have htoNat : (BitVec.ofNat 32 len).toNat = len := Nat.mod_eq_of_lt (hlen ▸ fcPaylen_lt _ _ _)
    refine RxInv.loadRxWd ((rxInv_iff_of_payload rfl).mpr
      ⟨hcnt, hout, ?_, ?_, ⟨t, htag, htoNat.trans hlen⟩, nofun⟩)
    · exact htoNat.symm ▸ hpos
    · exact htoNat.symm ▸ hmax

end InvariantByState

/-- A written byte is there to be read, and so is every byte that was. -/
theorem Memory.read?_write_ne_none {m : Memory} {a i : Nat} (b : Byte) (h : i ≠ a → Memory.read? m i ≠ none) :
    Memory.read? (Memory.write m a b) i ≠ none := by
  by_cases hi : i = a
  · simp [hi]
  · rw [Memory.read?_write_of_ne _ _ _ _ hi]
    exact h hi

theorem RxAnswers.keeps_rxInv {s t : State} (h : RxAnswers s (.next t)) (hs : RxInv s) : RxInv t := by
  cases h with
  | waits => exact hs
  | headerByte b rest hon hinb =>
    obtain ⟨hstate, hlt, -⟩ := (onRxHdrByte_iff s).mp hon
    obtain ⟨-, hout⟩ := (rxInv_iff_of_hdr hstate).mp hs
    refine RxInv.loadRxWd ((rxInv_iff_of_hdr (by exact hstate)).mpr ⟨?_, hout⟩)
    show (s.rxCnt + 1).toNat ≤ 4
    bv_omega
  | headerDone b rest hon hinb =>
    obtain ⟨hstate, -⟩ := (onRxHdrDone_iff s).mp hon
    obtain ⟨-, hout⟩ := (rxInv_iff_of_hdr hstate).mp hs
    exact rxInv_rxDispatch hstate rfl hout
  | payloadByte b rest hon hinb hin hlen =>
    obtain ⟨hstate, -⟩ := (onRxPayByte_iff s).mp hon
    obtain ⟨hcnt, hout, hgot, hmax, hannounced, hwritten⟩ := (rxInv_iff_of_payload hstate).mp hs
    have hsucc : (s.rxGot + 1).toNat = s.rxGot.toNat + 1 := by bv_omega
    refine RxInv.loadRxWd ((rxInv_iff_of_payload (by exact hstate)).mpr
      ⟨hcnt, hout, ?_, hmax, hannounced, fun i hi => Memory.read?_write_ne_none b fun hne => hwritten i ?_⟩)
    · show (s.rxGot + 1).toNat < s.rxLen.toNat
      bv_omega
    · have hi : i < (s.rxGot + 1).toNat := hi
      omega
  | lastPayloadByte b rest hon hinb hin hlen =>
    obtain ⟨hstate, -⟩ := (onRxPayByte_iff s).mp hon
    obtain ⟨-, hout, -⟩ := (rxInv_iff_of_payload hstate).mp hs
    exact (rxInv_iff_of_hdr rfl).mpr ⟨hs.rxCnt_le, hout⟩
  | timeout hon => exact rxInv_rxRaise (.inr (.inr rfl)) hs.rxCnt_le
  | linkError hon => exact rxInv_rxRaise (.inr (.inl rfl)) hs.rxCnt_le

/-- RX.RESTART brings RX to a header boundary with no outcome (R251); a tick touches only its deadline; the other
operations of no unit leave RX alone. -/
theorem OpAnswers.keeps_rxInv {s t : State} (h : OpAnswers s (.next t)) (hs : RxInv s) : RxInv t := by
  cases h with
  | rxResumed => exact (rxInv_iff_of_hdr rfl).mpr ⟨Nat.zero_le 4, rfl⟩
  | ticked => exact hs
  | _ => exact hs.congr (by simp [RxRegsEq]) (by simp)

theorem exec_keeps_rxInv {i : Instr} {s t : State} (hframe : i.header = none) (hs : RxInv s)
    (ht : exec i s = .next t) : RxInv t := by
  rcases ht ▸ exec_cases hframe s with h | h | h | h
  · obtain ⟨-, hregs, ⟨-, -, -, hcfg, -⟩, -⟩ := h.frame
    exact hs.congr hregs hcfg
  · obtain ⟨-, hregs, ⟨-, -, -, hcfg, -⟩, -⟩ := h.frame
    exact hs.congr hregs hcfg
  · exact h.keeps_rxInv hs
  · exact h.keeps_rxInv hs

/-- Settles O48: by induction over what a step can do; RX's own steps and RX.RESTART carry the argument. -/
theorem receiverInvariantIsKept : Obligations.ReceiverInvariantIsKept := fun _ _ =>
  step_induct RxInv
    (exec_keeps := fun _ _ _ => exec_keeps_rxInv)
    (agenda_keeps := fun _ _ h => h)
    (ret_keeps := fun _ _ h => h)
    (inb_keeps := fun _ _ h => h)
    (out_keeps := fun _ h => h)
    (pop_keeps := fun _ c h => by cases c <;> exact h)
    (error_keeps := fun _ l h => by cases l <;> exact h)
    (reset_keeps := fun s _ => rxInv_resetTo s.cfg (s.epoch + 1) s.agenda)

/-! ### A completed header, by its tag and its length (R232 to R239) -/

/-- An unknown tag (R238). -/
theorem rxDispatch_of_unknown {s : State} (htag : Tag.ofByte s.rxHdr.h0 = none) :
    rxDispatch s = rxRaise .malformedFrame { s with rxTag := s.rxHdr.h0, rxParams := s.rxHdr.params } := by
  simp [rxDispatch, htag]

/-- A payload RXBUF cannot hold (R239). -/
theorem rxDispatch_of_too_long {s : State} {t : Tag} (htag : Tag.ofByte s.rxHdr.h0 = some t)
    (hmax : s.cfg.maxPayload < fcPaylen s.cfg.tag2Kind t s.rxHdr.params) :
    rxDispatch s = rxRaise .malformedFrame
      { s with
        rxTag := s.rxHdr.h0, rxParams := s.rxHdr.params
        rxLen := BitVec.ofNat 32 (fcPaylen s.cfg.tag2Kind t s.rxHdr.params), rxGot := 0 } := by
  simp [rxDispatch, htag, hmax]

/-- An image without pixels unpacks to nothing (R137), so an empty payload is delivered as it is, whatever its tag. -/
theorem deliveryOf_nil {c : Config} {k : Tag2Kind} {tag : Byte} {t : Tag} {params : Params}
    (htag : Tag.ofByte tag = some t) (hlen : fcPaylen k t params = 0) :
    deliveryOf c tag params [] = ⟨tag, params, []⟩ := by
  by_cases ht : t = .image3Bit
  · subst ht
    rw [fcPaylen_image3Bit] at hlen
    have hpixels : (fcDims params).1.toNat * (fcDims params).2.toNat = 0 := by omega
    simp [deliveryOf, htag, icUnpack3Seq, hpixels]
  · simp [deliveryOf, htag, ht]

/-- The frame without payload, with what is delivered of it (R232, R245). -/
theorem rxDispatch_of_empty_eq {s : State} {t : Tag} (htag : Tag.ofByte s.rxHdr.h0 = some t)
    (hlen : fcPaylen s.cfg.tag2Kind t s.rxHdr.params = 0) :
    rxDispatch s =
      { s with
        rxTag := s.rxHdr.h0, rxParams := s.rxHdr.params, rxLen := 0, rxGot := 0
        dlv := s.dlv ++ [⟨s.rxHdr.h0, s.rxHdr.params, []⟩] } := by
  rw [rxDispatch_of_empty htag hlen, ← deliveryOf_nil (c := s.cfg) htag hlen]
  rfl

/-- The header of a payload to pull, with the deadline it loads (R232, R249). -/
theorem rxDispatch_of_payload_eq {s : State} {t : Tag} (htag : Tag.ofByte s.rxHdr.h0 = some t)
    (hpos : 0 < fcPaylen s.cfg.tag2Kind t s.rxHdr.params)
    (hmax : fcPaylen s.cfg.tag2Kind t s.rxHdr.params ≤ s.cfg.maxPayload) :
    rxDispatch s =
      { s with
        rxTag := s.rxHdr.h0, rxParams := s.rxHdr.params
        rxLen := BitVec.ofNat 32 (fcPaylen s.cfg.tag2Kind t s.rxHdr.params), rxGot := 0, rxState := .payload
        rxWd := if 0 < s.cfg.rxTimeoutTicks then BitVec.ofNat 32 s.cfg.rxTimeoutTicks else s.rxWd } :=
  (rxDispatch_of_payload htag hpos hmax).trans (loadRxWd_eq _)

/-! ### RX.RESTART (R251) -/

theorem rxStopped_iff (s : State) : rxStopped s = true ↔ s.rxState = .error := by
  simp [rxStopped]

/-- Settles O45: by whether RX has stopped. -/
theorem restartResumesAStoppedReceiver : Obligations.RestartResumesAStoppedReceiver :=
  ⟨fun s hne => if_neg (mt (rxStopped_iff s).mp hne), fun s hstate => if_pos ((rxStopped_iff s).mpr hstate)⟩

/-! ### The steps of RX (R231 to R252) -/

/-- RX is inside a frame between the bytes of a header and inside a payload (R28). -/
theorem rxInFrame_iff (s : State) :
    rxInFrame s = true ↔ s.rxState = .hdr ∧ s.rxCnt ≠ 0 ∨ s.rxState = .payload := by
  simp [rxInFrame]

/-- Settles O42: each step under its guard. -/
theorem receiverHeaderByteAndStops : Obligations.ReceiverHeaderByteAndStops := by
  refine ⟨?headerByte, ?timeout, ?linkError⟩
  case headerByte =>
    intro s b rest hstate hcnt herr hinb
    have hon := (onRxHdrByte_iff s).mpr ⟨hstate, hcnt, by simp [hinb], herr⟩
    rw [exec_rxHdrByte_of_cons hon hinb, loadRxWd_eq, setHeaderByte_of_lt _ b hcnt]
  case timeout =>
    intro s hticks hin hinb hwd herr
    exact if_pos ((onRxTimeout_iff s).mpr ⟨hticks, (rxInFrame_iff s).mpr hin, hinb, hwd, herr⟩)
  case linkError =>
    intro s hne herr
    exact if_pos ((onRxLinkErr_iff s).mpr ⟨hne, herr⟩)

/-- Settles O43: the step is the header's dispatch, which goes by its tag and its length. -/
theorem receiverDispatchesOnTheHeader : Obligations.ReceiverDispatchesOnTheHeader := by
  intro s b rest hstate hcnt herr hinb
  rw [exec_rxHdrDone_of_cons ((onRxHdrDone_iff s).mpr ⟨hstate, hcnt, by simp [hinb], herr⟩) hinb]
  refine ⟨_, rfl, fun htag => ?unknown, ?known⟩
  case unknown => exact congrArg _ (rxDispatch_of_unknown ((Tag.ofByte_eq_none_iff _).mpr htag))
  case known =>
    rintro t _ htag rfl
    exact ⟨fun hmax => congrArg _ (rxDispatch_of_too_long htag hmax),
      fun hempty => congrArg _ (rxDispatch_of_empty_eq htag hempty),
      fun hpos hmax => congrArg _ (rxDispatch_of_payload_eq htag hpos hmax)⟩

/-- The delivery of a payload, with the tag of a packed bitmap and its dimensions as bytes (R245). -/
theorem deliver_dlv_of_bytes (s : State) :
    (deliver s).dlv = s.dlv ++ [⟨s.rxTag, s.rxParams,
      if s.rxTag = 0x04 then
        icUnpack3Seq s.cfg.unpackLut (rxbufSeq s s.rxLen.toNat) (be16 s.rxParams.p2 s.rxParams.p3)
          (be16 s.rxParams.p0 s.rxParams.p1)
      else rxbufSeq s s.rxLen.toNat⟩] := by
  rw [deliver_dlv]
  simp only [Tag.ofByte_eq_some_iff, Tag.byte, fcDims]

/-- Settles O44: the byte stands at its index in RXBUF, and the step goes by whether it is the last. -/
theorem payloadByteIsStoredAndTheLastDelivers : Obligations.PayloadByteIsStoredAndTheLastDelivers := by
  intro s b rest hstate herr hinb hin
  have hon := (onRxPayByte_iff s).mpr ⟨hstate, by simp [hinb], herr⟩
  refine ⟨_, Memory.write s.rxbuf s.rxGot.toNat b, rfl, ?stored, fun i hi => ?others, fun hlen => ?more,
    fun hlen => ?last⟩
  case stored => exact (rxbufByte_write s _ _ b).trans (if_pos rfl)
  case others => exact (rxbufByte_write s _ _ b).trans (if_neg hi)
  case more => rw [exec_rxPayByte_of_more hon hinb hin hlen, loadRxWd_eq]
  case last => rw [exec_rxPayByte_of_last hon hinb hin hlen, deliver_eq, deliver_dlv_of_bytes]

/-! ### A whole header on the inbound link (R237) -/

/-- A turn of RX with an enabled step is that step (R99). -/
theorem rxTurn_of_enabled {i : Instr} {s : State} (hi : unitOf i = some .rx) (hon : enabled i s = true) :
    rxTurn s = exec i s := by
  rw [rxTurn_eq, select_of_enabled hi hon, runOrWait]

section InHeader

variable {s : State} {agenda : List AgendaItem} {b : Byte} {bytes : List Byte} {header : Header} {cnt : BitVec 3}

/-- The turn that takes the byte which begins a header (R231). -/
theorem rxTurn_begins (hstate : s.rxState = .hdr) (hcnt : s.rxCnt = 0) (herr : s.errInb = false) :
    rxTurn { s with inb := b :: bytes } =
      .next (inHeader s s.agenda bytes (setHeaderByte s.rxHdr 0 b) 1) := by
  have hon : enabled .rxHdrByte { s with inb := b :: bytes } = true :=
    (onRxHdrByte_iff _).mpr ⟨hstate, by simp [hcnt], List.cons_ne_nil _ _, herr⟩
  have hnext : inHeader s s.agenda bytes (setHeaderByte s.rxHdr s.rxCnt b) (s.rxCnt + 1) =
      inHeader s s.agenda bytes (setHeaderByte s.rxHdr 0 b) 1 := by
    rw [hcnt]
    rfl
  exact (rxTurn_of_enabled rfl hon).trans ((exec_rxHdrByte_of_cons hon rfl).trans
    (congrArg _ ((loadRxWd_header (s := s)).trans hnext)))

/-- A turn that takes one of the next three bytes (R231). -/
theorem rxTurn_collects (hstate : s.rxState = .hdr) (herr : s.errInb = false) (hcnt : cnt.toNat < 4) :
    rxTurn (inHeader s agenda (b :: bytes) header cnt) =
      .next (inHeader s agenda bytes (setHeaderByte header cnt b) (cnt + 1)) := by
  have hon : enabled .rxHdrByte (inHeader s agenda (b :: bytes) header cnt) = true :=
    (onRxHdrByte_iff _).mpr ⟨hstate, hcnt, List.cons_ne_nil _ _, herr⟩
  exact (rxTurn_of_enabled rfl hon).trans ((exec_rxHdrByte_of_cons hon rfl).trans
    (congrArg _ (loadRxWd_inHeader (s := s))))

/-- The turn that takes the fifth byte and acts on the header (R232). -/
theorem rxTurn_completes (hstate : s.rxState = .hdr) (herr : s.errInb = false) :
    rxTurn (inHeader s agenda (b :: bytes) header 4) =
      .next (rxDispatch (inHeader s agenda bytes { header with h4 := b } 0)) := by
  have hon : enabled .rxHdrDone (inHeader s agenda (b :: bytes) header 4) = true :=
    (onRxHdrDone_iff _).mpr ⟨hstate, rfl, List.cons_ne_nil _ _, herr⟩
  exact (rxTurn_of_enabled rfl hon).trans (exec_rxHdrDone_of_cons hon rfl)

end InHeader

/-- RX at a frame boundary with the header `h` just taken and the deadline loaded. -/
def withHeader (s : State) (h : Header) : State :=
  { s with
    rxHdr := h
    rxWd := if 0 < s.cfg.rxTimeoutTicks then BitVec.ofNat 32 s.cfg.rxTimeoutTicks else s.rxWd }

/-- On an empty link at a frame boundary taking a header leaves nothing but the header and the deadline. -/
theorem inHeader_eq_withHeader {s : State} (h : Header) (hcnt : s.rxCnt = 0) (hinb : s.inb = []) :
    inHeader s s.agenda [] h 0 = withHeader s h := by
  rw [inHeader, withHeader, loadRxWd_rxWd, ← hcnt, ← hinb]

/-- A whole header on an empty, healthy inbound link is taken and acted on in five turns (R231 to R237). -/
theorem receiveFrame_inb {s : State} (h : Header) (hstate : s.rxState = .hdr) (hcnt : s.rxCnt = 0) (hinb : s.inb = [])
    (herr : s.errInb = false) : receiveFrame .inb h s = .next (rxDispatch (withHeader s h)) := by
  have harrives : { s with inb := s.inb ++ h.bytes } = { s with inb := [h.h0, h.h1, h.h2, h.h3, h.h4] } := by
    rw [hinb]
    rfl
  calc receiveFrame .inb h s
    _ = turns 5 rxTurn { s with inb := [h.h0, h.h1, h.h2, h.h3, h.h4] } := congrArg (turns 5 rxTurn) harrives
    _ = turns 4 rxTurn (inHeader s s.agenda [h.h1, h.h2, h.h3, h.h4] _ 1) :=
      turns_of_next 4 (rxTurn_begins hstate hcnt herr)
    _ = turns 3 rxTurn (inHeader s s.agenda [h.h2, h.h3, h.h4] _ 2) :=
      turns_of_next 3 (rxTurn_collects hstate herr (by decide))
    _ = turns 2 rxTurn (inHeader s s.agenda [h.h3, h.h4] _ 3) :=
      turns_of_next 2 (rxTurn_collects hstate herr (by decide))
    _ = turns 1 rxTurn (inHeader s s.agenda [h.h4] _ 4) :=
      turns_of_next 1 (rxTurn_collects hstate herr (by decide))
    _ = .next (rxDispatch (inHeader s s.agenda [] h 0)) := turns_of_next 0 (rxTurn_completes hstate herr)
    _ = .next (rxDispatch (withHeader s h)) := by rw [inHeader_eq_withHeader h hcnt hinb]

/-- A payload follows the header `h`; the deadline is loaded already. -/
theorem rxDispatch_withHeader_of_payload {s : State} {h : Header} {t : Tag} (htag : Tag.ofByte h.h0 = some t)
    (hpos : 0 < fcPaylen s.cfg.tag2Kind t h.params)
    (hmax : fcPaylen s.cfg.tag2Kind t h.params ≤ s.cfg.maxPayload) :
    rxDispatch (withHeader s h) =
      { withHeader s h with
        rxTag := h.h0, rxParams := h.params, rxLen := BitVec.ofNat 32 (fcPaylen s.cfg.tag2Kind t h.params), rxGot := 0
        rxState := .payload } := by
  rw [rxDispatch_of_payload_eq (s := withHeader s h) htag hpos hmax]
  simp only [withHeader]
  split <;> rfl

/-- Settles O46: five turns take the header, and its dispatch goes by its tag and its length. -/
theorem frameOnTheInboundLink : Obligations.FrameOnTheInboundLink := by
  intro i h s hi hstate hcnt hinb herr
  rw [exec_of_header hi, receiveFrame_inb h hstate hcnt hinb herr]
  refine ⟨_, rfl, fun htag => ?unknown, ?known⟩
  case unknown => exact congrArg _ (rxDispatch_of_unknown htag)
  case known =>
    rintro t _ htag rfl
    exact ⟨fun hmax => congrArg _ (rxDispatch_of_too_long htag hmax),
      fun hempty => congrArg _ (rxDispatch_of_empty_eq htag hempty),
      fun hpos hmax => congrArg _ (rxDispatch_withHeader_of_payload htag hpos hmax)⟩

end Sys2Proof.Machine

/-! PROOFS. The host operations over MEM, the registers and the Frame Codec (spec/45_host_commands.md R262 to R268): what
stands in MEM after a sequence has been written, each operation by its bounds, and the registers as one list. -/

namespace Sys2Proof.Machine

/-! ### A sequence written to MEM (R51) -/

theorem memByte_writeSeq_inside (s : State) (a : Nat) {bs : List Byte} {j : Nat} (hj : j < bs.length) :
    some (memByte { s with mem := Memory.writeSeq s.mem a bs } (a + j)) = bs[j]? := by
  have hin : a ≤ a + j ∧ a + j - a < bs.length := ⟨Nat.le_add_right a j, by omega⟩
  rw [memByte_writeSeq, dif_pos hin, ← List.getElem?_eq_getElem, Nat.add_sub_cancel_left]

theorem memByte_writeSeq_outside (s : State) {a x : Nat} {bs : List Byte} (hx : x < a ∨ a + bs.length ≤ x) :
    memByte { s with mem := Memory.writeSeq s.mem a bs } x = memByte s x := by
  rw [memByte_writeSeq, dif_neg (by omega)]

/-! ### IC.PACK3 and IC.UNPACK3 over MEM (R262, R263) -/

section ImageOperations

variable {src dst : U32} {height width : U16} {s : State}

theorem exec_icPack3_of_past
    (h : s.cfg.memBytes < src.toNat + height.toNat * width.toNat ∨
      s.cfg.memBytes < dst.toNat + ceilDiv (height.toNat * width.toNat) 2) :
    exec (.icPack3 src height width dst) s = .next { s with result := .status .cmdRejected } :=
  if_pos h

theorem exec_icPack3_of_fits (hsrc : src.toNat + height.toNat * width.toNat ≤ s.cfg.memBytes)
    (hdst : dst.toNat + ceilDiv (height.toNat * width.toNat) 2 ≤ s.cfg.memBytes) :
    exec (.icPack3 src height width dst) s =
      .next
        { s with
          mem := Memory.writeSeq s.mem dst.toNat (icPack3Seq (memSeq s src.toNat (height.toNat * width.toNat)))
          result := .status .accepted } :=
  if_neg (not_or.mpr ⟨Nat.not_lt_of_le hsrc, Nat.not_lt_of_le hdst⟩)

theorem exec_icUnpack3_of_past
    (h : s.cfg.memBytes < src.toNat + ceilDiv (height.toNat * width.toNat) 2 ∨
      s.cfg.memBytes < dst.toNat + height.toNat * width.toNat) :
    exec (.icUnpack3 src width height dst) s = .next { s with result := .status .cmdRejected } :=
  if_pos h

theorem exec_icUnpack3_of_fits (hsrc : src.toNat + ceilDiv (height.toNat * width.toNat) 2 ≤ s.cfg.memBytes)
    (hdst : dst.toNat + height.toNat * width.toNat ≤ s.cfg.memBytes) :
    exec (.icUnpack3 src width height dst) s =
      .next
        { s with
          mem := Memory.writeSeq s.mem dst.toNat
            (icUnpack3Seq s.cfg.unpackLut (memSeq s src.toNat (ceilDiv (height.toNat * width.toNat) 2)) width height)
          result := .status .accepted } :=
  if_neg (not_or.mpr ⟨Nat.not_lt_of_le hsrc, Nat.not_lt_of_le hdst⟩)

end ImageOperations

/-- Settles O17: the bitmap is written as one sequence, which has one byte for two pixels. -/
theorem hostPackWritesTheBitmap : Obligations.HostPackWritesTheBitmap := by
  intro src height width dst s
  refine ⟨_, ceilDiv (height.toNat * width.toNat) 2, rfl, rfl, exec_icPack3_of_past, fun hsrc hdst =>
    ⟨_, exec_icPack3_of_fits hsrc hdst, fun j hj => ?bitmap, fun a ha => ?others⟩⟩
  case bitmap => exact memByte_writeSeq_inside s dst.toNat (by rwa [icPack3Seq_length, memSeq_length])
  case others => exact memByte_writeSeq_outside s (by rwa [icPack3Seq_length, memSeq_length])

/-- Settles O18: the matrix is written as one sequence, which has one byte for each pixel. -/
theorem hostUnpackWritesTheMatrix : Obligations.HostUnpackWritesTheMatrix := by
  intro src width height dst s
  refine ⟨_, ceilDiv (height.toNat * width.toNat) 2, rfl, rfl, exec_icUnpack3_of_past, fun hsrc hdst =>
    ⟨_, exec_icUnpack3_of_fits hsrc hdst, fun j hj => ?matrix, fun a ha => ?others⟩⟩
  case matrix => exact memByte_writeSeq_inside s dst.toNat (by rwa [icUnpack3Seq_length])
  case others => exact memByte_writeSeq_outside s (by rwa [icUnpack3Seq_length])

/-! ### MEM.WRITE and MEM.READ (R266, R267) -/

section MemoryOperations

variable {a : U32} {s : State}

theorem exec_memWrite_of_past (b : Byte) (h : s.cfg.memBytes ≤ a.toNat) :
    exec (.memWrite a b) s = .next { s with result := .status .cmdRejected } := if_pos h

theorem exec_memWrite_of_fits (b : Byte) (h : a.toNat < s.cfg.memBytes) :
    exec (.memWrite a b) s =
      .next { s with mem := Memory.write s.mem a.toNat b, result := .status .accepted } :=
  if_neg (Nat.not_le_of_lt h)

theorem exec_memRead_of_past (h : s.cfg.memBytes ≤ a.toNat) :
    exec (.memRead a) s = .next { s with result := .status .cmdRejected } := if_pos h

theorem exec_memRead_of_fits (h : a.toNat < s.cfg.memBytes) :
    exec (.memRead a) s = .next { s with result := .byte (memByte s a.toNat) } := if_neg (Nat.not_le_of_lt h)

end MemoryOperations

/-- Settles O21: by the bound, and by what MEM holds after one byte was written. -/
theorem memoryOperationsReadAndWriteOneByte : Obligations.MemoryOperationsReadAndWriteOneByte := by
  refine ⟨fun a b s hpast => ⟨exec_memWrite_of_past b hpast, exec_memRead_of_past hpast⟩, ?write,
    fun a s => exec_memRead_of_fits⟩
  case write =>
    intro a b s hin
    refine ⟨_, exec_memWrite_of_fits b hin, ?written, fun x hx => ?others⟩
    case written => exact (memByte_write s _ _ b).trans (if_pos rfl)
    case others => exact (memByte_write s _ _ b).trans (if_neg hx)

/-! ### FC.ENCODE and FC.DECODE as host operations (R264) -/

theorem exec_fcEncode (tag : Byte) (params : Params) (s : State) :
    exec (.fcEncode tag params) s =
      .next { s with result := if Tag.ofByte tag ≠ none then .header (headerOf tag params) else .malformedFrame } := by
  show execFcEncode tag params s = _
  unfold execFcEncode
  split
  next h henc =>
    obtain ⟨htag, rfl⟩ := (fcEncode_eq_some_iff tag params h).mp henc
    rw [if_pos htag, setResult]
  next henc => rw [if_neg (not_not.mpr ((fcEncode_eq_none_iff tag params).mp henc)), setResult]

theorem exec_fcDecode (h : Header) (s : State) :
    exec (.fcDecode h) s =
      .next { s with result := if Tag.ofByte h.h0 ≠ none then .frame h.h0 h.params else .malformedFrame } := by
  show execFcDecode h s = _
  unfold execFcDecode
  split
  next tag params hdec =>
    obtain ⟨htag, rfl⟩ := (fcEncode_eq_some_iff tag params h).mp ((fcDecode_eq_some_iff h tag params).mp hdec)
    rw [headerOf_h0, headerOf_params, if_pos htag, setResult]
  next hdec => rw [if_neg (not_not.mpr ((fcDecode_eq_none_iff h).mp hdec)), setResult]

/-- The bytes that are tags (R110). -/
theorem ofByte_ne_none_iff (b : Byte) :
    Tag.ofByte b ≠ none ↔ b ∈ ([0x00, 0x01, 0x02, 0x03, 0x04, 0xFF] : List Byte) := by
  rw [Ne, Tag.ofByte_eq_none_iff, not_not]

/-- Settles O9: the result goes by whether the tag is recognised. -/
theorem frameCodecOperationsReturn : Obligations.FrameCodecOperationsReturn := by
  rintro tags rfl
  refine ⟨fun t p s => ?encode, fun h s => ?decode⟩
  case encode => simp only [exec_fcEncode, ofByte_ne_none_iff, headerOf]
  case decode => simp only [exec_fcDecode, ofByte_ne_none_iff, Header.params]

/-! ### REG.READ (R268) -/

/-- The registers in the order of their numbers (R21, R38). -/
def registers (s : State) : List RegValue :=
  [.num s.txState.code, .num s.txIdx.toNat, .num s.txTag.toNat,
    .bytes [s.txParams.p0, s.txParams.p1, s.txParams.p2, s.txParams.p3], .num s.txBase.toNat, .num s.totalLen.toNat,
    .num s.sent.toNat, .num s.expect.toNat, .num s.chunkRem.toNat, .num s.wd.toNat, .num s.txOutcome.code,
    .num (entryInt s.txInfo), .num s.alState.code, .num s.alCnt.toNat, .bytes s.alHdr.bytes, .num s.aq.length,
    .num (bitNum s.aqOvf), .num (bitNum s.alLinkErr), .num s.rxState.code, .num s.rxCnt.toNat, .bytes s.rxHdr.bytes,
    .num s.rxTag.toNat, .bytes [s.rxParams.p0, s.rxParams.p1, s.rxParams.p2, s.rxParams.p3], .num s.rxLen.toNat,
    .num s.rxGot.toNat, .num s.rxWd.toNat, .num s.rxOutcome.code, .num (bitNum s.errOut), .num (bitNum s.errRet),
    .num (bitNum s.errInb)]

/-- A register's value is found at its number, and no other number is a register's (R21, R38). -/
theorem registerValue_eq_getElem? (s : State) (n : Nat) : registerValue s n = (registers s)[n]? := by
  rcases Nat.lt_or_ge n 30 with hn | hn
  · interval_cases n <;> rfl
  · obtain ⟨m, rfl⟩ := Nat.exists_eq_add_of_le' hn
    rfl

theorem exec_regRead (r : Byte) (s : State) :
    exec (.regRead r) s =
      .next
        { s with
          result := match (registers s)[r.toNat]? with
            | some v => .register v
            | none => .status .cmdRejected } := by
  show execRegRead r s = _
  unfold execRegRead
  rw [registerValue_eq_getElem?]
  cases (registers s)[r.toNat]? with
  | some v => rfl
  | none => rfl

/-! The numeric codes of R24, R25, R26 and R290, as REG.READ returns them. -/

theorem txState_code (x : TxState) :
    (x.code : Int) = match x with | .idle => 0 | .hsSend => 1 | .hsWait => 2 | .chunkSend => 3 | .chunkWait => 4 := by
  cases x <;> rfl

theorem alState_code (x : AlState) : (x.code : Int) = match x with | .hdr => 0 | .diag => 1 | .error => 2 := by
  cases x <;> rfl

theorem rxState_code (x : RxState) : (x.code : Int) = match x with | .hdr => 0 | .payload => 1 | .error => 2 := by
  cases x <;> rfl

theorem outcomeCode_code (x : OutcomeCode) :
    (x.code : Int) = match x with
      | .none => 0 | .success => 1 | .handshakeTimeout => 2 | .peerNak => 3 | .protocolMismatch => 4
      | .malformedFrame => 5 | .linkIoFailure => 6 | .chunkAckTimeout => 7 | .rxTimeout => 8 | .cmdRejected => 9 := by
  cases x <;> rfl

/-- Settles O22: the registers as one list, with the codes of the state registers and outcomes as numbers. -/
theorem registerReadReturnsTheRegister : Obligations.RegisterReadReturnsTheRegister := by
  intro r s
  rw [exec_regRead, registers, txState_code, alState_code, rxState_code, outcomeCode_code s.txOutcome,
    outcomeCode_code s.rxOutcome]
  rfl

end Sys2Proof.Machine

/-! PROOFS. The Retry Controller (spec/45_host_commands.md R275 to R281): the loop over answers, answer by answer; HOST's
turns, phase by phase; and that the loop beside the machine keeps to the loop over answers. -/

namespace Sys2Proof.Machine

/-! ### The loop over answers (R276, R277) -/

/-- Whether the answer of attempt number `n` ends the call: a refused TX.START always does. -/
def endsCall (mode : RetryMode) (m : Option Nat) (n : Nat) : AttemptAnswer → Bool
  | .rejected => true
  | .done c => retryEnds mode m n c

theorem rcContinuous_cons (m : Option Nat) (n : Nat) (a : AttemptAnswer) (as : List AttemptAnswer) :
    rcContinuous m n (a :: as) =
      if endsCall .continuous m (n + 1) a then ⟨1, 0, some a⟩ else (rcContinuous m (n + 1) as).afterWait := by
  cases a <;> rfl

theorem afterWait_iterate (k : Nat) (r : RetryRun) :
    RetryRun.afterWait^[k] r = ⟨r.starts + k, r.waits + k, r.answer⟩ := by
  induction k with
  | zero => rfl
  | succ k ih =>
    rw [Function.iterate_succ_apply', ih]
    rfl

/-- Answers that leave the call open are each an attempt and a wait before what comes after. -/
theorem rcContinuous_append {m : Option Nat} (as bs : List AttemptAnswer) (n : Nat)
    (h : (rcContinuous m n as).answer = none) :
    rcContinuous m n (as ++ bs) = RetryRun.afterWait^[as.length] (rcContinuous m (n + as.length) bs) := by
  induction as generalizing n with
  | nil => rfl
  | cons a as ih =>
    rw [rcContinuous_cons] at h
    cases hends : endsCall .continuous m (n + 1) a with
    | true => simp [hends] at h
    | false =>
      have hopen : (rcContinuous m (n + 1) as).answer = none := by simpa [hends, RetryRun.afterWait] using h
      rw [List.cons_append, rcContinuous_cons, hends, if_neg Bool.false_ne_true, ih _ hopen, List.length_cons,
        Function.iterate_succ_apply', Nat.add_right_comm, Nat.add_assoc]

/-- The run after answers that leave the call open: one more attempt than answers, a wait after each answer. -/
theorem rcContinuous_of_open {m : Option Nat} {n : Nat} {as : List AttemptAnswer}
    (h : (rcContinuous m n as).answer = none) : rcContinuous m n as = ⟨as.length + 1, as.length, none⟩ := by
  have happend := rcContinuous_append as [] n h
  rw [List.append_nil, afterWait_iterate] at happend
  rw [happend]
  simp [rcContinuous, Nat.add_comm]

/-- An answer that ends the call after answers that leave it open is what the call answers. -/
theorem rcContinuous_append_of_ends {m : Option Nat} {n : Nat} {as : List AttemptAnswer} {a : AttemptAnswer}
    (h : (rcContinuous m n as).answer = none) (ha : endsCall .continuous m (n + as.length + 1) a = true)
    (rest : List AttemptAnswer) :
    rcContinuous m n (as ++ a :: rest) = ⟨as.length + 1, as.length, some a⟩ := by
  rw [rcContinuous_append as _ n h, rcContinuous_cons, if_pos ha, afterWait_iterate]
  simp [Nat.add_comm]

/-! ### Recoverable failures (R277, R278, R281) -/

/-- The outcomes that end no attempt before the last one allowed (R278). -/
theorem retryEnds_of_recoverable {m : Option Nat} {n : Nat} {c : OutcomeCode}
    (hc : c = .handshakeTimeout ∨ c = .peerNak) : retryEnds .continuous m n c = true ↔ m = some n := by
  rcases hc with rfl | rfl <;> simp [retryEnds_continuous_iff, outcomeClass]

/-- Recoverable failures before attempt MAX_ATTEMPTS leave the call open. -/
theorem rcContinuous_open_of_recoverable {m : Option Nat} (fails : List OutcomeCode) (n : Nat)
    (hfails : ∀ c ∈ fails, c = .handshakeTimeout ∨ c = .peerNak) (hmax : ∀ k, m = some k → n + fails.length < k) :
    (rcContinuous m n (fails.map .done)).answer = none := by
  induction fails generalizing n with
  | nil => rfl
  | cons c fails ih =>
    obtain ⟨hc, hfails⟩ := List.forall_mem_cons.mp hfails
    have hmax' : ∀ k, m = some k → n + 1 + fails.length < k := fun k hk => by
      have := hmax k hk
      rw [List.length_cons] at this
      omega
    have hretries : ¬ endsCall .continuous m (n + 1) (.done c) = true := fun hends => by
      have := hmax' _ ((retryEnds_of_recoverable hc).mp hends)
      omega
    rw [List.map_cons, rcContinuous_cons, if_neg hretries]
    exact ih (n + 1) hfails hmax'

/-- The call ends with the first outcome after recoverable failures that ends it. -/
theorem rcContinuous_converges {m : Option Nat} {fails : List OutcomeCode} {c : OutcomeCode}
    (hfails : ∀ c ∈ fails, c = .handshakeTimeout ∨ c = .peerNak) (hmax : ∀ k, m = some k → fails.length + 1 ≤ k)
    (hc : retryEnds .continuous m (fails.length + 1) c = true) (rest : List AttemptAnswer) :
    rcContinuous m 0 (fails.map .done ++ .done c :: rest) = ⟨fails.length + 1, fails.length, some (.done c)⟩ := by
  have hopen := rcContinuous_open_of_recoverable (m := m) fails 0 hfails (by simpa using hmax)
  have hends : endsCall .continuous m (0 + (fails.map AttemptAnswer.done).length + 1) (.done c) = true := by
    simpa [endsCall] using hc
  simpa using rcContinuous_append_of_ends hopen hends rest

/-- Settles O57: Success and the fatal outcomes end the call, and so does any outcome of the last attempt allowed. -/
theorem retryControllerConverges : Obligations.RetryControllerConverges := by
  intro fails m rest hfails
  refine ⟨fun hmax => ⟨rcContinuous_converges hfails hmax ?success rest, fun f hf =>
    rcContinuous_converges hfails hmax ?fatal rest⟩, fun c hc hm =>
    rcContinuous_converges hfails (fun k hk => ?limit) ?last rest⟩
  case success => exact (retryEnds_continuous_iff ..).mpr (.inl rfl)
  case fatal =>
    have hclass : outcomeClass f = some .fatal := by rcases hf with rfl | rfl | rfl | rfl <;> rfl
    exact (retryEnds_continuous_iff ..).mpr (.inr (.inl hclass))
  case limit => exact (Option.some.inj (hm.symm.trans hk)).le
  case last => exact (retryEnds_of_recoverable hc).mpr hm

/-! ### HOST's turns (R275 to R277) -/

theorem started_of_rejected (n : Nat) {x : Result} (r : RetryState) (hx : x = .status .cmdRejected) :
    r.started n x =
      { r with
        phase := .over, answers := r.answers ++ [.rejected]
        run := ⟨r.run.starts + 1, r.run.waits, some .rejected⟩ } :=
  if_pos hx

theorem started_of_accepted (n : Nat) {x : Result} (r : RetryState) (hx : x ≠ .status .cmdRejected) :
    r.started n x = { r with phase := .await n, run := { r.run with starts := r.run.starts + 1 } } :=
  if_neg hx

theorem ended_of_ends {m : Option Nat} {c : OutcomeCode} {r : RetryState}
    (h : retryEnds r.mode m (r.answers.length + 1) c = true) : r.ended m c = r.answered (.done c) :=
  if_pos h

theorem ended_of_retries {m : Option Nat} {c : OutcomeCode} {r : RetryState}
    (h : ¬ retryEnds r.mode m (r.answers.length + 1) c = true) :
    r.ended m c =
      { r with
        phase := .backoff, answers := r.answers ++ [.done c], run := { r.run with waits := r.run.waits + 1 } } :=
  if_neg h

/-- An element of EVT that is no TX_DONE is passed over. -/
theorem seen_of_other {m : Option Nat} {e : EventRecord} (r : RetryState)
    (he : ∀ code info sent expect, e ≠ .txDone code info sent expect) :
    r.seen m 0 e = { r with phase := .await 0 } := by
  rcases seen_cases m 0 e r with ⟨k, -⟩ | ⟨c, info, sent, expect, -, rfl, -⟩
  · cases e with
    | txDone c info sent expect => exact absurd rfl (he c info sent expect)
    | _ => rfl
  · exact absurd rfl (he c info sent expect)

/-- Whether an outcome an attempt can have ends the call (R276 to R278). -/
theorem retryEnds_iff {mode : RetryMode} {m : Option Nat} {n : Nat} {c : OutcomeCode} (hnone : c ≠ .none)
    (hrej : c ≠ .cmdRejected) :
    retryEnds mode m n c = true ↔
      mode = .single ∨ (c ≠ .handshakeTimeout ∧ c ≠ .peerNak) ∨ m = some n := by
  cases mode with
  | single => simp
  | continuous =>
    rw [retryEnds_continuous_iff]
    cases c <;> simp_all [outcomeClass]

section Turns

variable {r : RetryState} {s : State}

/-- HOST issues TX.START, and goes by what it returns. -/
theorem retryTurn_of_start {t : State} (hr : r.phase = .start)
    (ht : exec (.txStart r.attempt.tag r.attempt.params r.attempt.base) s = .next t) :
    retryTurn r s = .next (r.started s.evt.length t.result, t) := by
  have hd : decode s.cfg.tag2Kind .command (r.attempt.start.command.getD []) = .ok r.attempt.start :=
    decodeCommand_of_command (k := s.cfg.tag2Kind) (i := r.attempt.start) rfl rfl
  have hexec : exec r.attempt.start s = .next t := ht
  simp only [retryTurn, hr, hostAct_command hd, hexec, withHost_next]

/-- HOST takes the head of EVT, and goes by what it is. -/
theorem retryTurn_of_event {n : Nat} {e : EventRecord} {rest : List EventRecord} (hr : r.phase = .await n)
    (he : s.evt = e :: rest) :
    retryTurn r s = .next (r.seen s.cfg.maxAttempts n e, { s with evt := rest }) := by
  simp only [retryTurn, hr, he, hostAct_hostPop_evt, withHost_next, List.tail_cons]

theorem retryTurn_of_no_event {n : Nat} (hr : r.phase = .await n) (he : s.evt = []) :
    retryTurn r s = .next (r, s) := by
  simp only [retryTurn, hr, he]

theorem retryTurn_of_backoff (hr : r.phase = .backoff) : retryTurn r s = .next ({ r with phase := .start }, s) := by
  simp only [retryTurn, hr]

theorem retryTurn_of_over (hr : r.phase = .over) : retryTurn r s = .next (r, s) := by
  simp only [retryTurn, hr]

end Turns

/-- No host operation stops the block. -/
theorem HostAnswers.exists_next {i : Instr} {s : State} {o : StepOutcome} (h : HostAnswers i s o) :
    ∃ t, o = .next t := by
  cases h <;> exact ⟨_, rfl⟩

/-- Settles O58: a turn of HOST by its phase. -/
theorem retryLoopIssuesStartAndAwaitsDone : Obligations.RetryLoopIssuesStartAndAwaitsDone := by
  refine ⟨?start, ?older, ?otherEvent, ?done, fun _ _ _ => retryTurn_of_no_event, fun _ _ => retryTurn_of_backoff,
    fun _ _ => retryTurn_of_over⟩
  case start =>
    intro r s hr
    obtain ⟨t, ht⟩ := (hostAnswers_execTxStart r.attempt.tag r.attempt.params r.attempt.base s).exists_next
    refine ⟨t, ht, fun hrej => ?_, fun hacc => ?_⟩
    · rw [retryTurn_of_start hr ht, started_of_rejected _ r hrej]
    · rw [retryTurn_of_start hr ht, started_of_accepted _ r hacc]
  case older => exact fun r s n e rest => retryTurn_of_event
  case otherEvent =>
    intro r s e rest hr hevt he
    rw [retryTurn_of_event hr hevt, seen_of_other r he]
  case done =>
    intro r s code info sent expect rest hr hevt hnone hrej
    have hturn : retryTurn r s = .next (r.ended s.cfg.maxAttempts code, { s with evt := rest }) :=
      retryTurn_of_event hr hevt
    refine ⟨fun hends => ?_, fun hmode hcode hmax => ?_⟩
    · rw [hturn, ended_of_ends ((retryEnds_iff hnone hrej).mpr hends)]
      rfl
    · have hretries : ¬ retryEnds r.mode s.cfg.maxAttempts (r.answers.length + 1) code = true := by
        rw [hmode, retryEnds_of_recoverable hcode]
        exact hmax
      rw [hturn, ended_of_retries hretries]

/-! ### The configuration record is never written (R8) -/

theorem exec_keeps_cfg {i : Instr} {s t : State} (hframe : i.header = none) (ht : exec i s = .next t) :
    t.cfg = s.cfg := by
  rcases ht ▸ exec_cases hframe s with h | h | h | h
  · obtain ⟨-, -, ⟨-, -, -, hcfg, -⟩, -⟩ := h.frame
    exact hcfg
  · obtain ⟨-, -, ⟨-, -, -, hcfg, -⟩, -⟩ := h.frame
    exact hcfg
  · obtain ⟨-, -, ⟨-, -, -, hcfg, -⟩, -⟩ := h.frame
    exact hcfg
  · cases h <;> simp

theorem step_keeps_cfg {s t : State} (ht : step s = .next t) : t.cfg = s.cfg :=
  step_induct (fun u => u.cfg = s.cfg) (fun _ _ _ hframe hs ht => (exec_keeps_cfg hframe ht).trans hs)
    (fun _ _ hs => hs) (fun _ _ hs => hs) (fun _ _ hs => hs) (fun _ hs => hs)
    (fun _ c hs => by cases c <;> exact hs) (fun _ l hs => by cases l <;> exact hs) (fun _ hs => hs) rfl ht

theorem hostAct_keeps_cfg {item : AgendaItem} {s t : State} (ht : hostAct item s = .next t) : t.cfg = s.cfg :=
  step_keeps_cfg (s := { s with agenda := item :: s.agenda }) ht

/-! ### The loop beside the machine (R276, R277) -/

/-- RC.SINGLE or RC.CONTINUOUS over answers. -/
def rcScript (mode : RetryMode) (m : Option Nat) (answers : List AttemptAnswer) : RetryRun :=
  match mode with
  | .single => rcSingle answers
  | .continuous => rcContinuous m 0 answers

section Script

variable {mode : RetryMode} {m : Option Nat} {as : List AttemptAnswer} {a : AttemptAnswer}

theorem rcScript_nil : rcScript mode m [] = ⟨1, 0, none⟩ := by
  cases mode <;> rfl

theorem rcScript_append_of_ends (h : (rcScript mode m as).answer = none)
    (ha : endsCall mode m (as.length + 1) a = true) :
    rcScript mode m (as ++ [a]) = { rcScript mode m as with answer := some a } := by
  cases mode with
  | single =>
    cases as with
    | nil => rfl
    | cons b as => cases h
  | continuous =>
    have hends : endsCall .continuous m (0 + as.length + 1) a = true := by rwa [Nat.zero_add]
    change rcContinuous m 0 (as ++ [a]) = { rcContinuous m 0 as with answer := some a }
    rw [rcContinuous_append_of_ends h hends, rcContinuous_of_open h]

theorem rcScript_append_of_retries (h : (rcScript mode m as).answer = none)
    (ha : ¬ endsCall mode m (as.length + 1) a = true) :
    rcScript mode m (as ++ [a]) = (rcScript mode m as).afterWait := by
  cases mode with
  | single => cases a <;> exact absurd rfl ha
  | continuous =>
    have hretries : ¬ endsCall .continuous m (0 + as.length + 1) a = true := by rwa [Nat.zero_add]
    change rcContinuous m 0 (as ++ [a]) = (rcContinuous m 0 as).afterWait
    rw [rcContinuous_append as [a] 0 h, rcContinuous_cons, if_neg hretries, rcContinuous_of_open h, afterWait_iterate]
    simp [rcContinuous, RetryRun.afterWait, Nat.add_comm, Nat.add_left_comm]

end Script

/-- Whether the attempt that follows the answers so far has been started, or none follows. -/
def RetryPhase.attempted : RetryPhase → Bool
  | .await _ => true
  | .over => true
  | _ => false

/-- HOST's state agrees with the loop over the answers so far, which counts an attempt as started before HOST issues its
TX.START. -/
structure RetryState.Follows (m : Option Nat) (r : RetryState) : Prop where
  run_eq : rcScript r.mode m r.answers =
    if r.phase.attempted then r.run else { r.run with starts := r.run.starts + 1 }
  isOpen : r.phase ≠ .over → r.run.answer = none

section Follows

variable {m : Option Nat} {r : RetryState}

theorem follows_begin (ops : List Instr) (attempt : Attempt) (mode : RetryMode) :
    (RetryState.begin ops attempt mode).Follows m :=
  ⟨rcScript_nil, fun _ => rfl⟩

/-- A change of phase that starts no attempt. -/
theorem RetryState.Follows.phase (h : r.Follows m) {p : RetryPhase} (hp : p.attempted = r.phase.attempted)
    (hover : r.phase ≠ .over) : { r with phase := p }.Follows m :=
  ⟨h.run_eq.trans (by rw [hp]), fun _ => h.isOpen hover⟩

/-- While an attempt is awaited HOST has done what the loop over the answers has. -/
theorem RetryState.Follows.of_await (h : r.Follows m) {n : Nat} (hr : r.phase = .await n) :
    rcScript r.mode m r.answers = r.run ∧ r.run.answer = none := by
  have hrun := h.run_eq
  rw [hr] at hrun
  exact ⟨hrun, h.isOpen (by simp [hr])⟩

/-- The call returns the answer of the attempt under way. -/
theorem RetryState.Follows.answered (h : r.Follows m) {n : Nat} (hr : r.phase = .await n) {a : AttemptAnswer}
    (ha : endsCall r.mode m (r.answers.length + 1) a = true) : (r.answered a).Follows m := by
  obtain ⟨hrun, hopen⟩ := h.of_await hr
  refine ⟨?_, fun hover => absurd rfl hover⟩
  rw [answered_mode, answered_answers, rcScript_append_of_ends (hrun ▸ hopen) ha, hrun]
  rfl

theorem RetryState.Follows.started (h : r.Follows m) (hr : r.phase = .start) (n : Nat) (x : Result) :
    (r.started n x).Follows m := by
  have hawait : { r with phase := .await n, run := { r.run with starts := r.run.starts + 1 } }.Follows m :=
    ⟨by simpa [hr, RetryPhase.attempted] using h.run_eq, fun _ => h.isOpen (by simp [hr])⟩
  by_cases hx : x = .status .cmdRejected
  · rw [started_of_rejected n r hx]
    exact hawait.answered rfl (a := .rejected) rfl
  · rw [started_of_accepted n r hx]
    exact hawait

theorem RetryState.Follows.ended (h : r.Follows m) {n : Nat} (hr : r.phase = .await n) (c : OutcomeCode) :
    (r.ended m c).Follows m := by
  by_cases hends : retryEnds r.mode m (r.answers.length + 1) c = true
  · rw [ended_of_ends hends]
    exact h.answered hr hends
  · obtain ⟨hrun, hopen⟩ := h.of_await hr
    have hscript := rcScript_append_of_retries (a := .done c) (hrun ▸ hopen) hends
    rw [ended_of_retries hends]
    exact ⟨hscript.trans (congrArg RetryRun.afterWait hrun), fun _ => hopen⟩

theorem RetryState.Follows.seen (h : r.Follows m) {n : Nat} (hr : r.phase = .await n) (e : EventRecord) :
    (r.seen m n e).Follows m := by
  rcases seen_cases m n e r with ⟨k, hseen⟩ | ⟨c, _, _, _, -, -, hseen⟩ <;> rw [hseen]
  · exact h.phase (by rw [hr]; rfl) (by simp [hr])
  · exact h.ended hr c

end Follows

theorem seen_attempt (m : Option Nat) (n : Nat) (e : EventRecord) (r : RetryState) :
    (r.seen m n e).attempt = r.attempt := by
  rcases seen_cases m n e r with ⟨k, hseen⟩ | ⟨c, _, _, _, -, -, hseen⟩ <;> simp [hseen]

theorem seen_mode (m : Option Nat) (n : Nat) (e : EventRecord) (r : RetryState) : (r.seen m n e).mode = r.mode := by
  rcases seen_cases m n e r with ⟨k, hseen⟩ | ⟨c, _, _, _, -, -, hseen⟩ <;> simp [hseen]

/-- All that a turn of HOST can make of HOST's state. -/
inductive HostTurn (m : Option Nat) (r : RetryState) : RetryState → Prop
  | waits : HostTurn m r r
  | moves (p : RetryPhase) (hr : r.phase.attempted = false) (hp : p.attempted = false) :
      HostTurn m r { r with phase := p }
  | starts (hr : r.phase = .start) (n : Nat) (x : Result) : HostTurn m r (r.started n x)
  | sees (n : Nat) (hr : r.phase = .await n) (e : EventRecord) : HostTurn m r (r.seen m n e)

theorem hostTurn_of_retryTurn {r r' : RetryState} {s t : State} (h : retryTurn r s = .next (r', t)) :
    HostTurn s.cfg.maxAttempts r r' ∧ t.cfg = s.cfg := by
  unfold retryTurn at h
  split at h
  next hr =>
    cases h
    exact ⟨.moves _ (by rw [hr]; rfl) rfl, rfl⟩
  next i ops hr =>
    obtain ⟨hact, rfl⟩ := withHost_eq_next h
    exact ⟨.moves _ (by rw [hr]; rfl) rfl, hostAct_keeps_cfg hact⟩
  next hr =>
    obtain ⟨hact, rfl⟩ := withHost_eq_next h
    exact ⟨.starts hr _ _, hostAct_keeps_cfg hact⟩
  next n hr =>
    split at h
    next =>
      cases h
      exact ⟨.waits, rfl⟩
    next e rest _ =>
      obtain ⟨hact, rfl⟩ := withHost_eq_next h
      exact ⟨.sees n hr e, hostAct_keeps_cfg hact⟩
  next hr =>
    cases h
    exact ⟨.moves _ (by rw [hr]; rfl) rfl, rfl⟩
  next =>
    cases h
    exact ⟨.waits, rfl⟩

section HostTurns

variable {m : Option Nat} {r r' : RetryState}

theorem HostTurn.attempt_eq (h : HostTurn m r r') : r'.attempt = r.attempt := by
  cases h with
  | waits => rfl
  | moves => rfl
  | starts hr n x => exact started_attempt n x r
  | sees n hr e => exact seen_attempt m n e r

theorem HostTurn.mode_eq (h : HostTurn m r r') : r'.mode = r.mode := by
  cases h with
  | waits => rfl
  | moves => rfl
  | starts hr n x => exact started_mode n x r
  | sees n hr e => exact seen_mode m n e r

theorem HostTurn.keeps_follows (h : HostTurn m r r') (hfollows : r.Follows m) : r'.Follows m := by
  cases h with
  | waits => exact hfollows
  | moves p hr hp =>
    refine hfollows.phase (hp.trans hr.symm) fun hover => ?_
    rw [hover] at hr
    cases hr
  | starts hr n x => exact hfollows.started hr n x
  | sees n hr e => exact hfollows.seen hr e

end HostTurns

/-- What every turn of HOST and every step of the machine keeps, every run of both keeps. -/
theorem retryRun_induct (P : RetryState → State → Prop)
    (turn_keeps : ∀ r s r' t, P r s → retryTurn r s = .next (r', t) → P r' t)
    (step_keeps : ∀ r s t, P r s → step s = .next t → P r t)
    (moves : List RetryMove) {r r' : RetryState} {s t : State} (h : P r s)
    (hrun : retryRun moves r s = .next (r', t)) : P r' t := by
  induction moves generalizing r s with
  | nil =>
    cases hrun
    exact h
  | cons move moves ih =>
    cases move with
    | host =>
      unfold retryRun at hrun
      split at hrun
      next r₁ s₁ hturn => exact ih (turn_keeps _ _ _ _ h hturn) hrun
      next => cases hrun
      next => cases hrun
    | machine =>
      unfold retryRun at hrun
      split at hrun
      next s₁ hstep => exact ih (step_keeps _ _ _ h hstep) hrun
      next => cases hrun
      next => cases hrun

/-- HOST and machine after some moves of a call: the operands of the call, the configuration it began under, and HOST's
state in agreement with the loop over the answers. -/
structure InCall (attempt : Attempt) (mode : RetryMode) (c : Config) (r : RetryState) (s : State) : Prop where
  attempt_eq : r.attempt = attempt
  mode_eq : r.mode = mode
  cfg_eq : s.cfg = c
  follows : r.Follows c.maxAttempts

theorem retryRun_inCall {moves : List RetryMove} {ops : List Instr} {attempt : Attempt} {mode : RetryMode}
    {s t : State} {r : RetryState} (h : retryRun moves (RetryState.begin ops attempt mode) s = .next (r, t)) :
    InCall attempt mode s.cfg r t := by
  refine retryRun_induct (InCall attempt mode s.cfg) (fun r u r' t hin hturn => ?turn) (fun r u t hin hstep => ?step)
    moves ⟨rfl, rfl, rfl, follows_begin ops attempt mode⟩ h
  case turn =>
    obtain ⟨hhost, hcfg⟩ := hostTurn_of_retryTurn hturn
    rw [hin.cfg_eq] at hhost
    exact ⟨hhost.attempt_eq.trans hin.attempt_eq, hhost.mode_eq.trans hin.mode_eq, hcfg.trans hin.cfg_eq,
      hhost.keeps_follows hin.follows⟩
  case step => exact { hin with cfg_eq := (step_keeps_cfg hstep).trans hin.cfg_eq }

/-- Settles O59: every run keeps HOST's state in agreement with the loop over the answers. -/
theorem retryLoopAnswersAsItsScript : Obligations.RetryLoopAnswersAsItsScript := by
  intro moves ops attempt mode s r t hrun
  obtain ⟨hattempt, hmode, -, hfollows⟩ := retryRun_inCall hrun
  refine ⟨hattempt, hmode, fun hphase => ?_⟩
  have hattempted : r.phase.attempted = true := by
    rcases hphase with hr | ⟨n, hr⟩ <;> rw [hr] <;> rfl
  have hscript := hfollows.run_eq
  rw [if_pos hattempted, hmode] at hscript
  exact hscript.symm

end Sys2Proof.Machine

/-! PROOFS. Exceptional events and ownership (spec/60_exceptions.md R304, R306, R311, R321): what a step of each unit
does to the channels, the steps a failed link or a byte at hand leaves enabled, waiting, and what a tick counts down. -/

namespace Sys2Proof.Machine

/-! ### The channels under the operations of AL and RX (R52) -/

/-- The fifth header byte is taken from the head of RET (R171). -/
theorem alPopFifth_ret_suffix (s : State) : (alPopFifth s).ret <:+ s.ret := by
  cases h : s.ret with
  | nil => simp [alPopFifth, h]
  | cons b rest => simp [alPopFifth_of_cons s b rest h]

/-- AQ.ENQ only appends, to the queue or, on an overflow, to EVT (R162). -/
theorem aqEnq_appends (v : Entry) (s : State) : s.aq <+: (aqEnq v s).aq ∧ s.evt <+: (aqEnq v s).evt := by
  rcases aqEnq_cases v s with ⟨-, h⟩ | ⟨-, h⟩ <;> simp [h]

/-- Acting on a completed header only appends, to DLV or EVT (R232). -/
theorem rxDispatch_appends (s : State) : s.dlv <+: (rxDispatch s).dlv ∧ s.evt <+: (rxDispatch s).evt := by
  rcases rxDispatch_cases s with ⟨-, h⟩ | ⟨_, _, -, -, ⟨-, h⟩ | ⟨-, -, h⟩ | ⟨-, -, h⟩⟩ <;>
    simp [h, deliver_dlv]

/-! ### The channels under a unit's step (R52, R306) -/

theorem TxAnswers.channels {s t : State} (h : TxAnswers s (.next t)) :
    t.ret = s.ret ∧ t.inb = s.inb ∧ t.diag = s.diag ∧ t.log = s.log ∧ t.dlv = s.dlv ∧ s.out <+: t.out ∧
      s.evt <+: t.evt := by
  cases h <;> simp

theorem AlAnswers.channels {s t : State} (h : AlAnswers s (.next t)) :
    t.out = s.out ∧ t.inb = s.inb ∧ t.dlv = s.dlv ∧ t.ret <:+ s.ret ∧ s.aq <+: t.aq ∧ s.diag <+: t.diag ∧
      s.log <+: t.log ∧ s.evt <+: t.evt := by
  cases h with
  | headerByte b rest hon hret => simp [hret]
  | diagByte b rest hon hret => simp [hret]
  | frameAck hon =>
    have happends := aqEnq_appends (.val (fcCount (alPopFifth s).alHdr.params)) (alPopFifth s)
    simpa [alPopFifth_ret_suffix] using happends
  | frameNak hon => simpa [alPopFifth_ret_suffix] using aqEnq_appends .nak (alPopFifth s)
  | _ => simp [alPopFifth_ret_suffix]

theorem RxAnswers.channels {s t : State} (h : RxAnswers s (.next t)) :
    t.out = s.out ∧ t.ret = s.ret ∧ t.diag = s.diag ∧ t.log = s.log ∧ t.inb <:+ s.inb ∧ s.dlv <+: t.dlv ∧
      s.evt <+: t.evt := by
  cases h with
  | headerByte b rest hon hinb => simp [hinb]
  | headerDone b rest hon hinb =>
    have happends := rxDispatch_appends { s with inb := rest, rxHdr := { s.rxHdr with h4 := b }, rxCnt := 0 }
    simpa [hinb] using happends
  | payloadByte b rest hon hinb => simp [hinb]
  | lastPayloadByte b rest hon hinb => simp [hinb, deliver_dlv]
  | _ => simp

/-- Settles O54: registers, inputs and queue by the frame of each unit's answers, the channels by what they append to
and take from. -/
theorem unitsWriteOnlyWhatTheyOwn : Obligations.UnitsWriteOnlyWhatTheyOwn := by
  refine ⟨fun i s t hi ht => ?tx, fun i s t hi ht => ?al, fun i s t hi ht => ?rx⟩
  case tx =>
    have hanswers : TxAnswers s (.next t) := ht ▸ txAnswers_exec hi s
    obtain ⟨hal, hrx, hinputs, hmem, haq⟩ := hanswers.frame
    obtain ⟨hret, hinb, hdiag, hlog, hdlv, hout, hevt⟩ := hanswers.channels
    exact ⟨hal, hrx, hinputs, hmem, hret, hinb, hdiag, hlog, hdlv, haq, hout, hevt⟩
  case al =>
    have hanswers : AlAnswers s (.next t) := ht ▸ alAnswers_exec hi s
    obtain ⟨htx, hrx, hinputs, hmem⟩ := hanswers.frame
    exact ⟨htx, hrx, hinputs, hmem, hanswers.channels⟩
  case rx =>
    have hanswers : RxAnswers s (.next t) := ht ▸ rxAnswers_exec hi s
    obtain ⟨htx, hal, hinputs, hmem, haq⟩ := hanswers.frame
    obtain ⟨hout, hret, hdiag, hlog, htakes⟩ := hanswers.channels
    exact ⟨htx, hal, hinputs, hmem, hout, hret, hdiag, hlog, haq, htakes⟩

/-! ### Priorities (R304) -/

/-! A failed link comes before all else in each unit's choice. -/

theorem txStepOf_of_errOut {s : State} (herr : s.errOut = true) : txStepOf s = .txLinkErr := if_pos herr

theorem alStepOf_of_errRet {s : State} (herr : s.errRet = true) : alStepOf s = .alLinkErr := if_pos herr

theorem rxStepOf_of_errInb {s : State} (herr : s.errInb = true) : rxStepOf s = .rxLinkErr := if_pos herr

/-- An entry in the queue keeps TX from both timeouts (R200, R207). -/
theorem tx_timeouts_disabled {s : State} (haq : s.aq ≠ []) :
    enabled .txHsTimeout s = false ∧ enabled .txChunkTimeout s = false := by
  have hhead : s.aq.head? ≠ none := mt List.head?_eq_none_iff.mp haq
  refine ⟨Bool.eq_false_iff.mpr fun hon => ?_, Bool.eq_false_iff.mpr fun hon => ?_⟩
  · obtain ⟨-, -, hempty, -⟩ := (onTxHsTimeout_iff s).mp hon
    exact hhead hempty
  · obtain ⟨-, -, hempty, -⟩ := (onTxChunkTimeout_iff s).mp hon
    exact hhead hempty

/-- A byte on INB keeps RX from its timeout (R250). -/
theorem rxTimeout_disabled {s : State} (hinb : s.inb ≠ []) : enabled .rxTimeout s = false := by
  refine Bool.eq_false_iff.mpr fun hon => ?_
  obtain ⟨-, -, hempty, -⟩ := (onRxTimeout_iff s).mp hon
  exact hinb hempty

/-! ### Waiting (R14, log 11) -/

/-- The meaning of each unit's step opens with the step's enabling condition. -/
theorem exec_of_disabled {i : Instr} {u : UnitName} {s : State} (hi : unitOf i = some u) (hoff : enabled i s = false) :
    exec i s = .next s := by
  cases i <;> cases hi
  all_goals exact if_neg (Bool.eq_false_iff.mp hoff)

theorem exec_aqDeq_of_empty {s : State} (haq : s.aq = []) : exec .aqDeq s = .next s := by
  change execAqDeq s = _
  simp [execAqDeq, haq]

/-- Settles O38: the priorities by the one step a unit's state and inputs leave it, waiting by the enabling
conditions. -/
theorem prioritiesAndWaiting : Obligations.PrioritiesAndWaiting :=
  ⟨fun _ _ herr hi hon => (eq_txStepOf hi hon).trans (txStepOf_of_errOut herr),
    fun _ _ herr hi hon => (eq_alStepOf hi hon).trans (alStepOf_of_errRet herr),
    fun _ _ herr hi hon => (eq_rxStepOf hi hon).trans (rxStepOf_of_errInb herr),
    fun _ => tx_timeouts_disabled, fun _ => rxTimeout_disabled, fun _ _ _ => exec_of_disabled,
    fun _ => exec_aqDeq_of_empty⟩

/-! ### TICK (R311) -/

/-- A counter that is not at 0, as a number. -/
theorem ne_zero_iff_toNat_pos {w : Nat} (v : BitVec w) : v ≠ 0 ↔ 0 < v.toNat := by
  simp [Nat.pos_iff_ne_zero, ← BitVec.toNat_inj]

theorem wdTicked_eq (s : State) :
    wdTicked s =
      if (s.txState = .hsWait ∨ s.txState = .chunkWait) ∧ 0 < s.wd.toNat then s.wd - 1 else s.wd := by
  simp only [wdTicked, txWaiting_iff, ne_zero_iff_toNat_pos]

theorem rxWdTicked_eq (s : State) :
    rxWdTicked s =
      if 0 < s.cfg.rxTimeoutTicks ∧ 0 < s.rxWd.toNat ∧
          ((s.rxState = .hdr ∧ 0 < s.rxCnt.toNat) ∨ s.rxState = .payload) then s.rxWd - 1
      else s.rxWd := by
  simp only [rxWdTicked, rxInFrame_iff, ne_zero_iff_toNat_pos]

/-- Settles O53: each watchdog under the condition of its register. -/
theorem tickDecrementsTheCounters : Obligations.TickDecrementsTheCounters := by
  intro s
  rw [← wdTicked_eq, ← rxWdTicked_eq]
  rfl

end Sys2Proof.Machine

/-! PROOFS. Reset (spec/70_reset_and_hazards.md R330): what is set once stays so until reset. Every row that is no frame
leaves the error inputs and the epoch as they are and can only set the listener's flags, LINKERR can only set an input,
and reset alone begins another epoch. -/

namespace Sys2Proof.Machine

/-! ### Sticky state, from one state to a later one -/

/-- What of the error inputs (R38), the listener's flags (R29) and AL_ERROR (R181) is set in `s` is set in `t`. -/
def StickyKept (s t : State) : Prop :=
  (s.errOut = true → t.errOut = true) ∧ (s.errRet = true → t.errRet = true) ∧ (s.errInb = true → t.errInb = true) ∧
    (s.aqOvf = true → t.aqOvf = true) ∧ (s.alLinkErr = true → t.alLinkErr = true) ∧
    (s.alState = .error → t.alState = .error)

theorem StickyKept.refl (s : State) : StickyKept s s := ⟨id, id, id, id, id, id⟩

theorem StickyKept.trans {s u t : State} (h : StickyKept s u) (h' : StickyKept u t) : StickyKept s t := by
  obtain ⟨hout, hret, hinb, hovf, hflag, hstate⟩ := h
  obtain ⟨hout', hret', hinb', hovf', hflag', hstate'⟩ := h'
  exact ⟨hout' ∘ hout, hret' ∘ hret, hinb' ∘ hinb, hovf' ∘ hovf, hflag' ∘ hflag, hstate' ∘ hstate⟩

theorem stickyKept_of_eq {s t : State} (hal : AlRegsEq s t) (hinputs : InputsEq s t) : StickyKept s t := by
  obtain ⟨hstate, -, -, hovf, hflag⟩ := hal
  obtain ⟨hout, hret, hinb, -⟩ := hinputs
  exact ⟨hout.trans, hret.trans, hinb.trans, hovf.trans, hflag.trans, hstate.trans⟩

/-- LINKERR sets one input and touches nothing else (R38). -/
theorem stickyKept_linkError (l : LinkName) (s : State) : StickyKept s (linkError l s) := by
  cases l with
  | out => exact ⟨fun _ => rfl, id, id, id, id, id⟩
  | ret => exact ⟨id, fun _ => rfl, id, id, id, id⟩
  | inb => exact ⟨id, id, fun _ => rfl, id, id, id⟩

/-! ### The listener's flags (R29) -/

/-- AQ.ENQ sets `aq_ovf` or leaves all of it alone (R162). -/
theorem stickyKept_aqEnq (v : Entry) (s : State) : StickyKept s (aqEnq v s) := by
  rcases aqEnq_cases v s with ⟨-, h⟩ | ⟨-, h⟩ <;> rw [h]
  · exact .refl s
  · exact ⟨id, id, id, fun _ => rfl, id, id⟩

theorem aqEnq_aqOvf_of_set (v : Entry) {s : State} (hs : s.aqOvf = true) : (aqEnq v s).aqOvf = true := by
  obtain ⟨-, -, -, hovf, -⟩ := stickyKept_aqEnq v s
  exact hovf hs

/-- The table of R183 has no row out of AL_ERROR. -/
theorem AlMove.keeps_error {s t : State} (h : AlMove s t) (hs : s.alState = .error) : t.alState = .error := by
  rcases h with hkept | ⟨herror, -⟩ | ⟨hhdr, -⟩ | ⟨hdiag, -⟩
  · exact hkept.trans hs
  · exact herror
  · exact absurd (hs.symm.trans hhdr) (by decide)
  · exact absurd (hs.symm.trans hdiag) (by decide)

theorem AlAnswers.keeps_aqOvf {s t : State} (h : AlAnswers s (.next t)) (hs : s.aqOvf = true) : t.aqOvf = true := by
  cases h with
  | frameAck | frameNak => exact aqEnq_aqOvf_of_set _ (by simpa using hs)
  | _ => simpa using hs

theorem AlAnswers.keeps_alLinkErr {s t : State} (h : AlAnswers s (.next t)) (hs : s.alLinkErr = true) :
    t.alLinkErr = true := by
  cases h with
  | linkError => rfl
  | _ => simpa using hs

theorem AlAnswers.stickyKept {s t : State} (h : AlAnswers s (.next t)) : StickyKept s t := by
  obtain ⟨-, -, ⟨hout, hret, hinb, -⟩, -⟩ := h.frame
  exact ⟨hout.trans, hret.trans, hinb.trans, h.keeps_aqOvf, h.keeps_alLinkErr, h.alMove.keeps_error⟩

/-- Of the rows of no unit, AQ.ENQ alone writes any of it: it may set `aq_ovf`. -/
theorem OpAnswers.stickyKept {s t : State} (h : OpAnswers s (.next t)) : StickyKept s t := by
  cases h with
  | enqueued v => exact stickyKept_aqEnq v s
  | _ => simp [StickyKept]

/-! ### Every instruction that is no frame, and every step -/

theorem exec_stickyKept {i : Instr} {s t : State} (hframe : i.header = none) (ht : exec i s = .next t) :
    StickyKept s t := by
  rcases ht ▸ exec_cases hframe s with h | h | h | h
  · obtain ⟨hal, -, hinputs, -⟩ := h.frame
    exact stickyKept_of_eq hal hinputs
  · exact h.stickyKept
  · obtain ⟨-, hal, hinputs, -⟩ := h.frame
    exact stickyKept_of_eq hal hinputs
  · exact h.stickyKept

theorem exec_keeps_epoch {i : Instr} {s t : State} (hframe : i.header = none) (ht : exec i s = .next t) :
    t.epoch = s.epoch := by
  rcases ht ▸ exec_cases hframe s with h | h | h | h
  · obtain ⟨-, -, ⟨-, -, -, -, -, hepoch, -⟩, -⟩ := h.frame
    exact hepoch
  · obtain ⟨-, -, ⟨-, -, -, -, -, hepoch, -⟩, -⟩ := h.frame
    exact hepoch
  · obtain ⟨-, -, ⟨-, -, -, -, -, hepoch, -⟩, -⟩ := h.frame
    exact hepoch
  · cases h <;> simp

/-- Since `s`, reset has begun a later epoch, or all sticky state of `s` stands. -/
def StickyUntilReset (s t : State) : Prop := s.epoch < t.epoch ∨ t.epoch = s.epoch ∧ StickyKept s t

/-- What keeps the epoch and clears nothing goes on with it. -/
theorem StickyUntilReset.extend {s u t : State} (h : StickyUntilReset s u) (hepoch : t.epoch = u.epoch)
    (hkept : StickyKept u t) : StickyUntilReset s t := by
  rcases h with hlater | ⟨hsame, hs⟩
  · exact .inl (hepoch ▸ hlater)
  · exact .inr ⟨hepoch.trans hsame, hs.trans hkept⟩

theorem StickyUntilReset.resetBlock {s u : State} (h : StickyUntilReset s u) : StickyUntilReset s (resetBlock u) := by
  have hle : s.epoch ≤ u.epoch := h.elim Nat.le_of_lt fun hsame => hsame.1.ge
  exact .inl (Nat.lt_succ_of_le hle)

theorem step_stickyUntilReset {s t : State} (ht : step s = .next t) : StickyUntilReset s t :=
  step_induct (StickyUntilReset s)
    (exec_keeps := fun _ _ _ hframe hs ht => hs.extend (exec_keeps_epoch hframe ht) (exec_stickyKept hframe ht))
    (agenda_keeps := fun _ _ hs => hs)
    (ret_keeps := fun _ _ hs => hs)
    (inb_keeps := fun _ _ hs => hs)
    (out_keeps := fun _ hs => hs)
    (pop_keeps := fun _ c hs => by cases c <;> exact hs)
    (error_keeps := fun _ l hs => hs.extend (by cases l <;> rfl) (stickyKept_linkError l _))
    (reset_keeps := fun _ hs => hs.resetBlock)
    (.inr ⟨rfl, .refl s⟩) ht

/-- Settles O55: the configuration by `step_keeps_cfg`; a step in the same epoch is no reset, and clears nothing. -/
theorem onlyResetClearsStickyState : Obligations.OnlyResetClearsStickyState := by
  intro s t ht
  refine ⟨step_keeps_cfg ht, fun hepoch => ?_⟩
  rcases step_stickyUntilReset ht with hlater | ⟨-, hkept⟩
  · exact absurd hepoch hlater.ne'
  · exact hkept

end Sys2Proof.Machine
